-- ==== Sys2Proof/Word.lean ====
section
/-!
DEFINITION. The two word widths of the core (00_scope.md R5, R6): an 8-bit byte and a 16-bit
address or register pair. Bit 0 is the least significant bit. What selects or joins bits stands
in Decode.lean.
-/
namespace Sys2Proof

/-- An 8-bit value: a register, a byte on the bus, an opcode (R5). -/
abbrev Byte := BitVec 8

/-- A 16-bit value: an address, SP, PC or a register pair (R5). -/
abbrev Word := BitVec 16

end Sys2Proof
end

