-- ==== Sys2Proof/Config.lean ====
section
/-!
DEFINITION. The values the spec leaves OPEN (00_scope.md R5; 93_implementation_defined.md part 2):
the initial contents of memory and the requests from outside. Each is a constant with no body, so
nothing can be proved of its value, and what is proved holds whatever it is. The parameters the
spec fixes (OPEN_BUS, CART_RAM_SIZE, DISPATCH_CYCLES, FAMILY_OF) stand in Machine/Params.lean.
-/
namespace Sys2Proof

/-- `INIT_MEM` for the flat array: the byte at flat address `a` after the `n`-th reset, until it is
written (R5, R42, D9: "a draw for every byte"). DESIGN CHOICE of form, log entry 1. -/
opaque Config.initMem (n a : Nat) : Byte

/-- `INIT_MEM` for cartridge RAM: the byte at RAM index `i` after the `n`-th reset, until it is
written (R5, R41, D9). DESIGN CHOICE of form, log entry 1. -/
opaque Config.initRam (n i : Nat) : Byte

/-- `EXT_IRQ`: the byte the environment supplies at the `n`-th draw, before it is cut down to bits
0, 1, 3, 4 (R5, R247, D21: "a free input of every step, under no law"). Log entry 2. -/
opaque Config.extIrq (n : Nat) : Byte

end Sys2Proof
end

