-- ==== Sys2Proof/Syntax.lean ====
section
/-!
DEFINITION. The instructions: one constructor per row of spec/opcode_table.json (511 rows: 244
primary, 11 illegal, 256 CB), and the operand kinds the encoding tables name (30_encoding.md
R93-R97). A constructor's name is its row's assembler form, `mHL` standing for `(HL)`, `mHLi` for
`(HL+)`, `mHLd` for `(HL-)`. Immediates are the bytes of R98; STOP carries its ignored byte (R235).
-/
namespace Sys2Proof

/-- The registers an 8-bit operand code can name (R93 but for code 6). -/
inductive Reg8 where
  | b
  | c
  | d
  | e
  | h
  | l
  | a
  deriving DecidableEq, Repr

/-- An operand of code `r8(k)`: a register, or for code 6 the byte at HL (R93). -/
inductive Operand8 where
  | reg (r : Reg8)
  | memHL
  deriving DecidableEq, Repr

/-- The source operand of an ALU operation: register, memory or immediate form (R110). -/
inductive Src where
  | op (o : Operand8)
  | imm (n : Byte)
  deriving DecidableEq, Repr

/-- The pairs `r16(p)` (R94). -/
inductive Pair where
  | bc
  | de
  | hl
  | sp
  deriving DecidableEq, Repr

/-- The pairs `r16stk(p)` of PUSH and POP (R94). -/
inductive StackPair where
  | bc
  | de
  | hl
  | af
  deriving DecidableEq, Repr

/-- The address forms `r16mem(p)` of the loads of A (R94). -/
inductive PairMem where
  | bc
  | de
  | hlInc
  | hlDec
  deriving DecidableEq, Repr

/-- The condition codes (R95). -/
inductive Cond where
  | nz
  | z
  | nc
  | c
  deriving DecidableEq, Repr

/-- The ALU operations (R96). -/
inductive AluOp where
  | add
  | adc
  | sub
  | sbc
  | and
  | xor
  | or
  | cp
  deriving DecidableEq, Repr

/-- The CB rotates and shifts (R97). -/
inductive RotOp where
  | rlc
  | rrc
  | rl
  | rr
  | sla
  | sra
  | swap
  | srl
  deriving DecidableEq, Repr

/-- The instructions: those with operand bytes first, each group in the opcode table's order (R99,
R100). -/
inductive Instr where
  -- the instructions with an operand byte or word
  | ld_bc_n16 (n : Word)
  | ld_b_n8 (n : Byte)
  | ld_mN16_sp (n : Word)
  | ld_c_n8 (n : Byte)
  | stop (x : Byte)
  | ld_de_n16 (n : Word)
  | ld_d_n8 (n : Byte)
  | jr_e8 (e : Byte)
  | ld_e_n8 (n : Byte)
  | jr_nz_e8 (e : Byte)
  | ld_hl_n16 (n : Word)
  | ld_h_n8 (n : Byte)
  | jr_z_e8 (e : Byte)
  | ld_l_n8 (n : Byte)
  | jr_nc_e8 (e : Byte)
  | ld_sp_n16 (n : Word)
  | ld_mHL_n8 (n : Byte)
  | jr_c_e8 (e : Byte)
  | ld_a_n8 (n : Byte)
  | jp_nz_n16 (n : Word)
  | jp_n16 (n : Word)
  | call_nz_n16 (n : Word)
  | add_a_n8 (n : Byte)
  | jp_z_n16 (n : Word)
  | call_z_n16 (n : Word)
  | call_n16 (n : Word)
  | adc_a_n8 (n : Byte)
  | jp_nc_n16 (n : Word)
  | call_nc_n16 (n : Word)
  | sub_n8 (n : Byte)
  | jp_c_n16 (n : Word)
  | call_c_n16 (n : Word)
  | sbc_a_n8 (n : Byte)
  | ldh_mN8_a (n : Byte)
  | and_n8 (n : Byte)
  | add_sp_e8 (e : Byte)
  | ld_mN16_a (n : Word)
  | xor_n8 (n : Byte)
  | ldh_a_mN8 (n : Byte)
  | or_n8 (n : Byte)
  | ld_hl_sp_e8 (e : Byte)
  | ld_a_mN16 (n : Word)
  | cp_n8 (n : Byte)
  -- primary opcodes 0x00-0x3F, without operand bytes
  | nop
  | ld_mBC_a
  | inc_bc
  | inc_b
  | dec_b
  | rlca
  | add_hl_bc
  | ld_a_mBC
  | dec_bc
  | inc_c
  | dec_c
  | rrca
  | ld_mDE_a
  | inc_de
  | inc_d
  | dec_d
  | rla
  | add_hl_de
  | ld_a_mDE
  | dec_de
  | inc_e
  | dec_e
  | rra
  | ld_mHLi_a
  | inc_hl
  | inc_h
  | dec_h
  | daa
  | add_hl_hl
  | ld_a_mHLi
  | dec_hl
  | inc_l
  | dec_l
  | cpl
  | ld_mHLd_a
  | inc_sp
  | inc_mHL
  | dec_mHL
  | scf
  | add_hl_sp
  | ld_a_mHLd
  | dec_sp
  | inc_a
  | dec_a
  | ccf
  -- primary opcodes 0x40-0x7F: 8-bit loads and HALT, without operand bytes
  | ld_b_b
  | ld_b_c
  | ld_b_d
  | ld_b_e
  | ld_b_h
  | ld_b_l
  | ld_b_mHL
  | ld_b_a
  | ld_c_b
  | ld_c_c
  | ld_c_d
  | ld_c_e
  | ld_c_h
  | ld_c_l
  | ld_c_mHL
  | ld_c_a
  | ld_d_b
  | ld_d_c
  | ld_d_d
  | ld_d_e
  | ld_d_h
  | ld_d_l
  | ld_d_mHL
  | ld_d_a
  | ld_e_b
  | ld_e_c
  | ld_e_d
  | ld_e_e
  | ld_e_h
  | ld_e_l
  | ld_e_mHL
  | ld_e_a
  | ld_h_b
  | ld_h_c
  | ld_h_d
  | ld_h_e
  | ld_h_h
  | ld_h_l
  | ld_h_mHL
  | ld_h_a
  | ld_l_b
  | ld_l_c
  | ld_l_d
  | ld_l_e
  | ld_l_h
  | ld_l_l
  | ld_l_mHL
  | ld_l_a
  | ld_mHL_b
  | ld_mHL_c
  | ld_mHL_d
  | ld_mHL_e
  | ld_mHL_h
  | ld_mHL_l
  | halt
  | ld_mHL_a
  | ld_a_b
  | ld_a_c
  | ld_a_d
  | ld_a_e
  | ld_a_h
  | ld_a_l
  | ld_a_mHL
  | ld_a_a
  -- primary opcodes 0x80-0xBF: ALU operations on A, without operand bytes
  | add_a_b
  | add_a_c
  | add_a_d
  | add_a_e
  | add_a_h
  | add_a_l
  | add_a_mHL
  | add_a_a
  | adc_a_b
  | adc_a_c
  | adc_a_d
  | adc_a_e
  | adc_a_h
  | adc_a_l
  | adc_a_mHL
  | adc_a_a
  | sub_b
  | sub_c
  | sub_d
  | sub_e
  | sub_h
  | sub_l
  | sub_mHL
  | sub_a
  | sbc_a_b
  | sbc_a_c
  | sbc_a_d
  | sbc_a_e
  | sbc_a_h
  | sbc_a_l
  | sbc_a_mHL
  | sbc_a_a
  | and_b
  | and_c
  | and_d
  | and_e
  | and_h
  | and_l
  | and_mHL
  | and_a
  | xor_b
  | xor_c
  | xor_d
  | xor_e
  | xor_h
  | xor_l
  | xor_mHL
  | xor_a
  | or_b
  | or_c
  | or_d
  | or_e
  | or_h
  | or_l
  | or_mHL
  | or_a
  | cp_b
  | cp_c
  | cp_d
  | cp_e
  | cp_h
  | cp_l
  | cp_mHL
  | cp_a
  -- primary opcodes 0xC0-0xFF, without operand bytes
  | ret_nz
  | pop_bc
  | push_bc
  | rst_00
  | ret_z
  | ret
  | rst_08
  | ret_nc
  | pop_de
  | illegal_d3
  | push_de
  | rst_10
  | ret_c
  | reti
  | illegal_db
  | illegal_dd
  | rst_18
  | pop_hl
  | ld_mC_a
  | illegal_e3
  | illegal_e4
  | push_hl
  | rst_20
  | jp_hl
  | illegal_eb
  | illegal_ec
  | illegal_ed
  | rst_28
  | pop_af
  | ld_a_mC
  | di
  | illegal_f4
  | push_af
  | rst_30
  | ld_sp_hl
  | ei
  | illegal_fc
  | illegal_fd
  | rst_38
  -- CB 0x00-0x3F: rotates, shifts, SWAP
  | rlc_b
  | rlc_c
  | rlc_d
  | rlc_e
  | rlc_h
  | rlc_l
  | rlc_mHL
  | rlc_a
  | rrc_b
  | rrc_c
  | rrc_d
  | rrc_e
  | rrc_h
  | rrc_l
  | rrc_mHL
  | rrc_a
  | rl_b
  | rl_c
  | rl_d
  | rl_e
  | rl_h
  | rl_l
  | rl_mHL
  | rl_a
  | rr_b
  | rr_c
  | rr_d
  | rr_e
  | rr_h
  | rr_l
  | rr_mHL
  | rr_a
  | sla_b
  | sla_c
  | sla_d
  | sla_e
  | sla_h
  | sla_l
  | sla_mHL
  | sla_a
  | sra_b
  | sra_c
  | sra_d
  | sra_e
  | sra_h
  | sra_l
  | sra_mHL
  | sra_a
  | swap_b
  | swap_c
  | swap_d
  | swap_e
  | swap_h
  | swap_l
  | swap_mHL
  | swap_a
  | srl_b
  | srl_c
  | srl_d
  | srl_e
  | srl_h
  | srl_l
  | srl_mHL
  | srl_a
  -- CB 0x40-0x7F: BIT
  | bit_0_b
  | bit_0_c
  | bit_0_d
  | bit_0_e
  | bit_0_h
  | bit_0_l
  | bit_0_mHL
  | bit_0_a
  | bit_1_b
  | bit_1_c
  | bit_1_d
  | bit_1_e
  | bit_1_h
  | bit_1_l
  | bit_1_mHL
  | bit_1_a
  | bit_2_b
  | bit_2_c
  | bit_2_d
  | bit_2_e
  | bit_2_h
  | bit_2_l
  | bit_2_mHL
  | bit_2_a
  | bit_3_b
  | bit_3_c
  | bit_3_d
  | bit_3_e
  | bit_3_h
  | bit_3_l
  | bit_3_mHL
  | bit_3_a
  | bit_4_b
  | bit_4_c
  | bit_4_d
  | bit_4_e
  | bit_4_h
  | bit_4_l
  | bit_4_mHL
  | bit_4_a
  | bit_5_b
  | bit_5_c
  | bit_5_d
  | bit_5_e
  | bit_5_h
  | bit_5_l
  | bit_5_mHL
  | bit_5_a
  | bit_6_b
  | bit_6_c
  | bit_6_d
  | bit_6_e
  | bit_6_h
  | bit_6_l
  | bit_6_mHL
  | bit_6_a
  | bit_7_b
  | bit_7_c
  | bit_7_d
  | bit_7_e
  | bit_7_h
  | bit_7_l
  | bit_7_mHL
  | bit_7_a
  -- CB 0x80-0xBF: RES
  | res_0_b
  | res_0_c
  | res_0_d
  | res_0_e
  | res_0_h
  | res_0_l
  | res_0_mHL
  | res_0_a
  | res_1_b
  | res_1_c
  | res_1_d
  | res_1_e
  | res_1_h
  | res_1_l
  | res_1_mHL
  | res_1_a
  | res_2_b
  | res_2_c
  | res_2_d
  | res_2_e
  | res_2_h
  | res_2_l
  | res_2_mHL
  | res_2_a
  | res_3_b
  | res_3_c
  | res_3_d
  | res_3_e
  | res_3_h
  | res_3_l
  | res_3_mHL
  | res_3_a
  | res_4_b
  | res_4_c
  | res_4_d
  | res_4_e
  | res_4_h
  | res_4_l
  | res_4_mHL
  | res_4_a
  | res_5_b
  | res_5_c
  | res_5_d
  | res_5_e
  | res_5_h
  | res_5_l
  | res_5_mHL
  | res_5_a
  | res_6_b
  | res_6_c
  | res_6_d
  | res_6_e
  | res_6_h
  | res_6_l
  | res_6_mHL
  | res_6_a
  | res_7_b
  | res_7_c
  | res_7_d
  | res_7_e
  | res_7_h
  | res_7_l
  | res_7_mHL
  | res_7_a
  -- CB 0xC0-0xFF: SET
  | set_0_b
  | set_0_c
  | set_0_d
  | set_0_e
  | set_0_h
  | set_0_l
  | set_0_mHL
  | set_0_a
  | set_1_b
  | set_1_c
  | set_1_d
  | set_1_e
  | set_1_h
  | set_1_l
  | set_1_mHL
  | set_1_a
  | set_2_b
  | set_2_c
  | set_2_d
  | set_2_e
  | set_2_h
  | set_2_l
  | set_2_mHL
  | set_2_a
  | set_3_b
  | set_3_c
  | set_3_d
  | set_3_e
  | set_3_h
  | set_3_l
  | set_3_mHL
  | set_3_a
  | set_4_b
  | set_4_c
  | set_4_d
  | set_4_e
  | set_4_h
  | set_4_l
  | set_4_mHL
  | set_4_a
  | set_5_b
  | set_5_c
  | set_5_d
  | set_5_e
  | set_5_h
  | set_5_l
  | set_5_mHL
  | set_5_a
  | set_6_b
  | set_6_c
  | set_6_d
  | set_6_e
  | set_6_h
  | set_6_l
  | set_6_mHL
  | set_6_a
  | set_7_b
  | set_7_c
  | set_7_d
  | set_7_e
  | set_7_h
  | set_7_l
  | set_7_mHL
  | set_7_a
  deriving DecidableEq, Repr

end Sys2Proof
end

