-- ==== Sys2Proof/WellFormed.lean ====
section
/-!
DEFINITION. Well-formed instructions. Operand widths and ranges are carried by the types (registers,
conditions and bit numbers are enumerations, immediates are bytes and words), so one check is left:
the eleven primary opcodes that "have no instruction" (30_encoding.md R101) are rows of the opcode
table and constructors of `Instr`, but no well-formed instructions.
-/
namespace Sys2Proof

/-- The slots of the eleven unused primary opcodes (R101). -/
def illegalSlots : List Instr :=
  [.illegal_d3, .illegal_db, .illegal_dd, .illegal_e3, .illegal_e4, .illegal_eb, .illegal_ec,
    .illegal_ed, .illegal_f4, .illegal_fc, .illegal_fd]

/-- The instruction is one the spec gives an operation, not an unused slot (R101). -/
def wellFormed (i : Instr) : Bool := !illegalSlots.contains i

end Sys2Proof
end

