-- ==== Sys2Proof/Decode.lean ====
section
/-!
DEFINITION. Decoding and encoding (30_encoding.md). First the helpers that select and join bits;
then the forms: for each group of the opcode maps, the constructor its fields select; then the
decoder, written from the field tables R92-R97 and the length table R90; then the encoder, written
from the byte maps R99 and R100, one line per constructor.
-/
namespace Sys2Proof

/-- The high byte of a word, `v[15:8]` (R7). -/
def hiByte (w : Word) : Byte := w.extractLsb' 8 8

/-- The low byte of a word, `v[7:0]` (R7). -/
def loByte (w : Word) : Byte := w.extractLsb' 0 8

/-- `cat(h, l)` (R7). -/
def catBytes (h l : Byte) : Word := h ++ l

/-- `sext_8` as a 16-bit addend (R8). -/
def sext8 (v : Byte) : Word := v.signExtend 16

namespace Form

/-- `LD r,r'` (R180). -/
def ldRegReg : Reg8 → Reg8 → Instr
  | .b, .b => .ld_b_b
  | .b, .c => .ld_b_c
  | .b, .d => .ld_b_d
  | .b, .e => .ld_b_e
  | .b, .h => .ld_b_h
  | .b, .l => .ld_b_l
  | .b, .a => .ld_b_a
  | .c, .b => .ld_c_b
  | .c, .c => .ld_c_c
  | .c, .d => .ld_c_d
  | .c, .e => .ld_c_e
  | .c, .h => .ld_c_h
  | .c, .l => .ld_c_l
  | .c, .a => .ld_c_a
  | .d, .b => .ld_d_b
  | .d, .c => .ld_d_c
  | .d, .d => .ld_d_d
  | .d, .e => .ld_d_e
  | .d, .h => .ld_d_h
  | .d, .l => .ld_d_l
  | .d, .a => .ld_d_a
  | .e, .b => .ld_e_b
  | .e, .c => .ld_e_c
  | .e, .d => .ld_e_d
  | .e, .e => .ld_e_e
  | .e, .h => .ld_e_h
  | .e, .l => .ld_e_l
  | .e, .a => .ld_e_a
  | .h, .b => .ld_h_b
  | .h, .c => .ld_h_c
  | .h, .d => .ld_h_d
  | .h, .e => .ld_h_e
  | .h, .h => .ld_h_h
  | .h, .l => .ld_h_l
  | .h, .a => .ld_h_a
  | .l, .b => .ld_l_b
  | .l, .c => .ld_l_c
  | .l, .d => .ld_l_d
  | .l, .e => .ld_l_e
  | .l, .h => .ld_l_h
  | .l, .l => .ld_l_l
  | .l, .a => .ld_l_a
  | .a, .b => .ld_a_b
  | .a, .c => .ld_a_c
  | .a, .d => .ld_a_d
  | .a, .e => .ld_a_e
  | .a, .h => .ld_a_h
  | .a, .l => .ld_a_l
  | .a, .a => .ld_a_a

/-- `LD r,(HL)` (R182). -/
def ldRegMem : Reg8 → Instr
  | .b => .ld_b_mHL
  | .c => .ld_c_mHL
  | .d => .ld_d_mHL
  | .e => .ld_e_mHL
  | .h => .ld_h_mHL
  | .l => .ld_l_mHL
  | .a => .ld_a_mHL

/-- `LD (HL),r` (R183). -/
def ldMemReg : Reg8 → Instr
  | .b => .ld_mHL_b
  | .c => .ld_mHL_c
  | .d => .ld_mHL_d
  | .e => .ld_mHL_e
  | .h => .ld_mHL_h
  | .l => .ld_mHL_l
  | .a => .ld_mHL_a

/-- `LD r,n8` and `LD (HL),n8` (R181, R184). -/
def ldImm : Operand8 → Byte → Instr
  | .reg .b, n => .ld_b_n8 n
  | .reg .c, n => .ld_c_n8 n
  | .reg .d, n => .ld_d_n8 n
  | .reg .e, n => .ld_e_n8 n
  | .reg .h, n => .ld_h_n8 n
  | .reg .l, n => .ld_l_n8 n
  | .memHL, n => .ld_mHL_n8 n
  | .reg .a, n => .ld_a_n8 n

/-- Opcodes 0x40-0x7F: `LD r8(y),r8(z)`, with HALT in the slot of `LD (HL),(HL)` (R99). -/
def ld : Operand8 → Operand8 → Instr
  | .reg dst, .reg src => ldRegReg dst src
  | .reg dst, .memHL => ldRegMem dst
  | .memHL, .reg src => ldMemReg src
  | .memHL, .memHL => .halt

/-- `INC r8(y)` (R120, R121). -/
def inc : Operand8 → Instr
  | .reg .b => .inc_b
  | .reg .c => .inc_c
  | .reg .d => .inc_d
  | .reg .e => .inc_e
  | .reg .h => .inc_h
  | .reg .l => .inc_l
  | .memHL => .inc_mHL
  | .reg .a => .inc_a

/-- `DEC r8(y)` (R122, R123). -/
def dec : Operand8 → Instr
  | .reg .b => .dec_b
  | .reg .c => .dec_c
  | .reg .d => .dec_d
  | .reg .e => .dec_e
  | .reg .h => .dec_h
  | .reg .l => .dec_l
  | .memHL => .dec_mHL
  | .reg .a => .dec_a

/-- The eight ALU operations, in register, memory and immediate form (R96, R110). -/
def alu : AluOp → Src → Instr
  | .add, .op (.reg .b) => .add_a_b
  | .add, .op (.reg .c) => .add_a_c
  | .add, .op (.reg .d) => .add_a_d
  | .add, .op (.reg .e) => .add_a_e
  | .add, .op (.reg .h) => .add_a_h
  | .add, .op (.reg .l) => .add_a_l
  | .add, .op .memHL => .add_a_mHL
  | .add, .op (.reg .a) => .add_a_a
  | .add, .imm n => .add_a_n8 n
  | .adc, .op (.reg .b) => .adc_a_b
  | .adc, .op (.reg .c) => .adc_a_c
  | .adc, .op (.reg .d) => .adc_a_d
  | .adc, .op (.reg .e) => .adc_a_e
  | .adc, .op (.reg .h) => .adc_a_h
  | .adc, .op (.reg .l) => .adc_a_l
  | .adc, .op .memHL => .adc_a_mHL
  | .adc, .op (.reg .a) => .adc_a_a
  | .adc, .imm n => .adc_a_n8 n
  | .sub, .op (.reg .b) => .sub_b
  | .sub, .op (.reg .c) => .sub_c
  | .sub, .op (.reg .d) => .sub_d
  | .sub, .op (.reg .e) => .sub_e
  | .sub, .op (.reg .h) => .sub_h
  | .sub, .op (.reg .l) => .sub_l
  | .sub, .op .memHL => .sub_mHL
  | .sub, .op (.reg .a) => .sub_a
  | .sub, .imm n => .sub_n8 n
  | .sbc, .op (.reg .b) => .sbc_a_b
  | .sbc, .op (.reg .c) => .sbc_a_c
  | .sbc, .op (.reg .d) => .sbc_a_d
  | .sbc, .op (.reg .e) => .sbc_a_e
  | .sbc, .op (.reg .h) => .sbc_a_h
  | .sbc, .op (.reg .l) => .sbc_a_l
  | .sbc, .op .memHL => .sbc_a_mHL
  | .sbc, .op (.reg .a) => .sbc_a_a
  | .sbc, .imm n => .sbc_a_n8 n
  | .and, .op (.reg .b) => .and_b
  | .and, .op (.reg .c) => .and_c
  | .and, .op (.reg .d) => .and_d
  | .and, .op (.reg .e) => .and_e
  | .and, .op (.reg .h) => .and_h
  | .and, .op (.reg .l) => .and_l
  | .and, .op .memHL => .and_mHL
  | .and, .op (.reg .a) => .and_a
  | .and, .imm n => .and_n8 n
  | .xor, .op (.reg .b) => .xor_b
  | .xor, .op (.reg .c) => .xor_c
  | .xor, .op (.reg .d) => .xor_d
  | .xor, .op (.reg .e) => .xor_e
  | .xor, .op (.reg .h) => .xor_h
  | .xor, .op (.reg .l) => .xor_l
  | .xor, .op .memHL => .xor_mHL
  | .xor, .op (.reg .a) => .xor_a
  | .xor, .imm n => .xor_n8 n
  | .or, .op (.reg .b) => .or_b
  | .or, .op (.reg .c) => .or_c
  | .or, .op (.reg .d) => .or_d
  | .or, .op (.reg .e) => .or_e
  | .or, .op (.reg .h) => .or_h
  | .or, .op (.reg .l) => .or_l
  | .or, .op .memHL => .or_mHL
  | .or, .op (.reg .a) => .or_a
  | .or, .imm n => .or_n8 n
  | .cp, .op (.reg .b) => .cp_b
  | .cp, .op (.reg .c) => .cp_c
  | .cp, .op (.reg .d) => .cp_d
  | .cp, .op (.reg .e) => .cp_e
  | .cp, .op (.reg .h) => .cp_h
  | .cp, .op (.reg .l) => .cp_l
  | .cp, .op .memHL => .cp_mHL
  | .cp, .op (.reg .a) => .cp_a
  | .cp, .imm n => .cp_n8 n

/-- `LD rr,n16` (R197). -/
def ldPairImm : Pair → Word → Instr
  | .bc, n => .ld_bc_n16 n
  | .de, n => .ld_de_n16 n
  | .hl, n => .ld_hl_n16 n
  | .sp, n => .ld_sp_n16 n

/-- `ADD HL,rr` (R141). -/
def addHL : Pair → Instr
  | .bc => .add_hl_bc
  | .de => .add_hl_de
  | .hl => .add_hl_hl
  | .sp => .add_hl_sp

/-- `INC rr` (R142). -/
def incPair : Pair → Instr
  | .bc => .inc_bc
  | .de => .inc_de
  | .hl => .inc_hl
  | .sp => .inc_sp

/-- `DEC rr` (R143). -/
def decPair : Pair → Instr
  | .bc => .dec_bc
  | .de => .dec_de
  | .hl => .dec_hl
  | .sp => .dec_sp

/-- `LD A,(rr)`, with `(HL+)` and `(HL-)` (R185, R187, R188). -/
def ldAMem : PairMem → Instr
  | .bc => .ld_a_mBC
  | .de => .ld_a_mDE
  | .hlInc => .ld_a_mHLi
  | .hlDec => .ld_a_mHLd

/-- `LD (rr),A`, with `(HL+)` and `(HL-)` (R186, R189, R190). -/
def ldMemA : PairMem → Instr
  | .bc => .ld_mBC_a
  | .de => .ld_mDE_a
  | .hlInc => .ld_mHLi_a
  | .hlDec => .ld_mHLd_a

/-- `PUSH rr` (R200). -/
def push : StackPair → Instr
  | .bc => .push_bc
  | .de => .push_de
  | .hl => .push_hl
  | .af => .push_af

/-- `POP rr` (R201). -/
def pop : StackPair → Instr
  | .bc => .pop_bc
  | .de => .pop_de
  | .hl => .pop_hl
  | .af => .pop_af

/-- `JR cc,e8` (R215). -/
def jrCond : Cond → Byte → Instr
  | .nz, e => .jr_nz_e8 e
  | .z, e => .jr_z_e8 e
  | .nc, e => .jr_nc_e8 e
  | .c, e => .jr_c_e8 e

/-- `JP cc,n16` (R212). -/
def jpCond : Cond → Word → Instr
  | .nz, n => .jp_nz_n16 n
  | .z, n => .jp_z_n16 n
  | .nc, n => .jp_nc_n16 n
  | .c, n => .jp_c_n16 n

/-- `CALL cc,n16` (R217). -/
def callCond : Cond → Word → Instr
  | .nz, n => .call_nz_n16 n
  | .z, n => .call_z_n16 n
  | .nc, n => .call_nc_n16 n
  | .c, n => .call_c_n16 n

/-- `RET cc` (R219). -/
def retCond : Cond → Instr
  | .nz => .ret_nz
  | .z => .ret_z
  | .nc => .ret_nc
  | .c => .ret_c

/-- `RST y*8` (R221). -/
def rst : Fin 8 → Instr
  | 0 => .rst_00
  | 1 => .rst_08
  | 2 => .rst_10
  | 3 => .rst_18
  | 4 => .rst_20
  | 5 => .rst_28
  | 6 => .rst_30
  | 7 => .rst_38

/-- The CB rotates and shifts (R97, R150). -/
def rot : RotOp → Operand8 → Instr
  | .rlc, .reg .b => .rlc_b
  | .rlc, .reg .c => .rlc_c
  | .rlc, .reg .d => .rlc_d
  | .rlc, .reg .e => .rlc_e
  | .rlc, .reg .h => .rlc_h
  | .rlc, .reg .l => .rlc_l
  | .rlc, .memHL => .rlc_mHL
  | .rlc, .reg .a => .rlc_a
  | .rrc, .reg .b => .rrc_b
  | .rrc, .reg .c => .rrc_c
  | .rrc, .reg .d => .rrc_d
  | .rrc, .reg .e => .rrc_e
  | .rrc, .reg .h => .rrc_h
  | .rrc, .reg .l => .rrc_l
  | .rrc, .memHL => .rrc_mHL
  | .rrc, .reg .a => .rrc_a
  | .rl, .reg .b => .rl_b
  | .rl, .reg .c => .rl_c
  | .rl, .reg .d => .rl_d
  | .rl, .reg .e => .rl_e
  | .rl, .reg .h => .rl_h
  | .rl, .reg .l => .rl_l
  | .rl, .memHL => .rl_mHL
  | .rl, .reg .a => .rl_a
  | .rr, .reg .b => .rr_b
  | .rr, .reg .c => .rr_c
  | .rr, .reg .d => .rr_d
  | .rr, .reg .e => .rr_e
  | .rr, .reg .h => .rr_h
  | .rr, .reg .l => .rr_l
  | .rr, .memHL => .rr_mHL
  | .rr, .reg .a => .rr_a
  | .sla, .reg .b => .sla_b
  | .sla, .reg .c => .sla_c
  | .sla, .reg .d => .sla_d
  | .sla, .reg .e => .sla_e
  | .sla, .reg .h => .sla_h
  | .sla, .reg .l => .sla_l
  | .sla, .memHL => .sla_mHL
  | .sla, .reg .a => .sla_a
  | .sra, .reg .b => .sra_b
  | .sra, .reg .c => .sra_c
  | .sra, .reg .d => .sra_d
  | .sra, .reg .e => .sra_e
  | .sra, .reg .h => .sra_h
  | .sra, .reg .l => .sra_l
  | .sra, .memHL => .sra_mHL
  | .sra, .reg .a => .sra_a
  | .swap, .reg .b => .swap_b
  | .swap, .reg .c => .swap_c
  | .swap, .reg .d => .swap_d
  | .swap, .reg .e => .swap_e
  | .swap, .reg .h => .swap_h
  | .swap, .reg .l => .swap_l
  | .swap, .memHL => .swap_mHL
  | .swap, .reg .a => .swap_a
  | .srl, .reg .b => .srl_b
  | .srl, .reg .c => .srl_c
  | .srl, .reg .d => .srl_d
  | .srl, .reg .e => .srl_e
  | .srl, .reg .h => .srl_h
  | .srl, .reg .l => .srl_l
  | .srl, .memHL => .srl_mHL
  | .srl, .reg .a => .srl_a

/-- `BIT b,r8(z)` (R170). -/
def bit : Fin 8 → Operand8 → Instr
  | 0, .reg .b => .bit_0_b
  | 0, .reg .c => .bit_0_c
  | 0, .reg .d => .bit_0_d
  | 0, .reg .e => .bit_0_e
  | 0, .reg .h => .bit_0_h
  | 0, .reg .l => .bit_0_l
  | 0, .memHL => .bit_0_mHL
  | 0, .reg .a => .bit_0_a
  | 1, .reg .b => .bit_1_b
  | 1, .reg .c => .bit_1_c
  | 1, .reg .d => .bit_1_d
  | 1, .reg .e => .bit_1_e
  | 1, .reg .h => .bit_1_h
  | 1, .reg .l => .bit_1_l
  | 1, .memHL => .bit_1_mHL
  | 1, .reg .a => .bit_1_a
  | 2, .reg .b => .bit_2_b
  | 2, .reg .c => .bit_2_c
  | 2, .reg .d => .bit_2_d
  | 2, .reg .e => .bit_2_e
  | 2, .reg .h => .bit_2_h
  | 2, .reg .l => .bit_2_l
  | 2, .memHL => .bit_2_mHL
  | 2, .reg .a => .bit_2_a
  | 3, .reg .b => .bit_3_b
  | 3, .reg .c => .bit_3_c
  | 3, .reg .d => .bit_3_d
  | 3, .reg .e => .bit_3_e
  | 3, .reg .h => .bit_3_h
  | 3, .reg .l => .bit_3_l
  | 3, .memHL => .bit_3_mHL
  | 3, .reg .a => .bit_3_a
  | 4, .reg .b => .bit_4_b
  | 4, .reg .c => .bit_4_c
  | 4, .reg .d => .bit_4_d
  | 4, .reg .e => .bit_4_e
  | 4, .reg .h => .bit_4_h
  | 4, .reg .l => .bit_4_l
  | 4, .memHL => .bit_4_mHL
  | 4, .reg .a => .bit_4_a
  | 5, .reg .b => .bit_5_b
  | 5, .reg .c => .bit_5_c
  | 5, .reg .d => .bit_5_d
  | 5, .reg .e => .bit_5_e
  | 5, .reg .h => .bit_5_h
  | 5, .reg .l => .bit_5_l
  | 5, .memHL => .bit_5_mHL
  | 5, .reg .a => .bit_5_a
  | 6, .reg .b => .bit_6_b
  | 6, .reg .c => .bit_6_c
  | 6, .reg .d => .bit_6_d
  | 6, .reg .e => .bit_6_e
  | 6, .reg .h => .bit_6_h
  | 6, .reg .l => .bit_6_l
  | 6, .memHL => .bit_6_mHL
  | 6, .reg .a => .bit_6_a
  | 7, .reg .b => .bit_7_b
  | 7, .reg .c => .bit_7_c
  | 7, .reg .d => .bit_7_d
  | 7, .reg .e => .bit_7_e
  | 7, .reg .h => .bit_7_h
  | 7, .reg .l => .bit_7_l
  | 7, .memHL => .bit_7_mHL
  | 7, .reg .a => .bit_7_a

/-- `RES b,r8(z)` (R171). -/
def res : Fin 8 → Operand8 → Instr
  | 0, .reg .b => .res_0_b
  | 0, .reg .c => .res_0_c
  | 0, .reg .d => .res_0_d
  | 0, .reg .e => .res_0_e
  | 0, .reg .h => .res_0_h
  | 0, .reg .l => .res_0_l
  | 0, .memHL => .res_0_mHL
  | 0, .reg .a => .res_0_a
  | 1, .reg .b => .res_1_b
  | 1, .reg .c => .res_1_c
  | 1, .reg .d => .res_1_d
  | 1, .reg .e => .res_1_e
  | 1, .reg .h => .res_1_h
  | 1, .reg .l => .res_1_l
  | 1, .memHL => .res_1_mHL
  | 1, .reg .a => .res_1_a
  | 2, .reg .b => .res_2_b
  | 2, .reg .c => .res_2_c
  | 2, .reg .d => .res_2_d
  | 2, .reg .e => .res_2_e
  | 2, .reg .h => .res_2_h
  | 2, .reg .l => .res_2_l
  | 2, .memHL => .res_2_mHL
  | 2, .reg .a => .res_2_a
  | 3, .reg .b => .res_3_b
  | 3, .reg .c => .res_3_c
  | 3, .reg .d => .res_3_d
  | 3, .reg .e => .res_3_e
  | 3, .reg .h => .res_3_h
  | 3, .reg .l => .res_3_l
  | 3, .memHL => .res_3_mHL
  | 3, .reg .a => .res_3_a
  | 4, .reg .b => .res_4_b
  | 4, .reg .c => .res_4_c
  | 4, .reg .d => .res_4_d
  | 4, .reg .e => .res_4_e
  | 4, .reg .h => .res_4_h
  | 4, .reg .l => .res_4_l
  | 4, .memHL => .res_4_mHL
  | 4, .reg .a => .res_4_a
  | 5, .reg .b => .res_5_b
  | 5, .reg .c => .res_5_c
  | 5, .reg .d => .res_5_d
  | 5, .reg .e => .res_5_e
  | 5, .reg .h => .res_5_h
  | 5, .reg .l => .res_5_l
  | 5, .memHL => .res_5_mHL
  | 5, .reg .a => .res_5_a
  | 6, .reg .b => .res_6_b
  | 6, .reg .c => .res_6_c
  | 6, .reg .d => .res_6_d
  | 6, .reg .e => .res_6_e
  | 6, .reg .h => .res_6_h
  | 6, .reg .l => .res_6_l
  | 6, .memHL => .res_6_mHL
  | 6, .reg .a => .res_6_a
  | 7, .reg .b => .res_7_b
  | 7, .reg .c => .res_7_c
  | 7, .reg .d => .res_7_d
  | 7, .reg .e => .res_7_e
  | 7, .reg .h => .res_7_h
  | 7, .reg .l => .res_7_l
  | 7, .memHL => .res_7_mHL
  | 7, .reg .a => .res_7_a

/-- `SET b,r8(z)` (R172). -/
def set : Fin 8 → Operand8 → Instr
  | 0, .reg .b => .set_0_b
  | 0, .reg .c => .set_0_c
  | 0, .reg .d => .set_0_d
  | 0, .reg .e => .set_0_e
  | 0, .reg .h => .set_0_h
  | 0, .reg .l => .set_0_l
  | 0, .memHL => .set_0_mHL
  | 0, .reg .a => .set_0_a
  | 1, .reg .b => .set_1_b
  | 1, .reg .c => .set_1_c
  | 1, .reg .d => .set_1_d
  | 1, .reg .e => .set_1_e
  | 1, .reg .h => .set_1_h
  | 1, .reg .l => .set_1_l
  | 1, .memHL => .set_1_mHL
  | 1, .reg .a => .set_1_a
  | 2, .reg .b => .set_2_b
  | 2, .reg .c => .set_2_c
  | 2, .reg .d => .set_2_d
  | 2, .reg .e => .set_2_e
  | 2, .reg .h => .set_2_h
  | 2, .reg .l => .set_2_l
  | 2, .memHL => .set_2_mHL
  | 2, .reg .a => .set_2_a
  | 3, .reg .b => .set_3_b
  | 3, .reg .c => .set_3_c
  | 3, .reg .d => .set_3_d
  | 3, .reg .e => .set_3_e
  | 3, .reg .h => .set_3_h
  | 3, .reg .l => .set_3_l
  | 3, .memHL => .set_3_mHL
  | 3, .reg .a => .set_3_a
  | 4, .reg .b => .set_4_b
  | 4, .reg .c => .set_4_c
  | 4, .reg .d => .set_4_d
  | 4, .reg .e => .set_4_e
  | 4, .reg .h => .set_4_h
  | 4, .reg .l => .set_4_l
  | 4, .memHL => .set_4_mHL
  | 4, .reg .a => .set_4_a
  | 5, .reg .b => .set_5_b
  | 5, .reg .c => .set_5_c
  | 5, .reg .d => .set_5_d
  | 5, .reg .e => .set_5_e
  | 5, .reg .h => .set_5_h
  | 5, .reg .l => .set_5_l
  | 5, .memHL => .set_5_mHL
  | 5, .reg .a => .set_5_a
  | 6, .reg .b => .set_6_b
  | 6, .reg .c => .set_6_c
  | 6, .reg .d => .set_6_d
  | 6, .reg .e => .set_6_e
  | 6, .reg .h => .set_6_h
  | 6, .reg .l => .set_6_l
  | 6, .memHL => .set_6_mHL
  | 6, .reg .a => .set_6_a
  | 7, .reg .b => .set_7_b
  | 7, .reg .c => .set_7_c
  | 7, .reg .d => .set_7_d
  | 7, .reg .e => .set_7_e
  | 7, .reg .h => .set_7_h
  | 7, .reg .l => .set_7_l
  | 7, .memHL => .set_7_mHL
  | 7, .reg .a => .set_7_a

end Form

/-! The field tables (R92-R97). -/

/-- Field `x = op[7:6]` (R92). -/
def fieldX (b : Byte) : Nat := b.toNat / 64

/-- Field `y = op[5:3]` (R92). -/
def fieldY (b : Byte) : Fin 8 := Fin.ofNat 8 (b.toNat / 8)

/-- Field `z = op[2:0]` (R92). -/
def fieldZ (b : Byte) : Fin 8 := Fin.ofNat 8 b.toNat

/-- Field `p = op[5:4]` (R92). -/
def fieldP (b : Byte) : Fin 4 := Fin.ofNat 4 (b.toNat / 16)

/-- Field `q = op[3]` (R92). -/
def fieldQ (b : Byte) : Bool := b.getLsbD 3

/-- `r8(k)` (R93). -/
def operand8OfCode : Fin 8 → Operand8
  | 0 => .reg .b
  | 1 => .reg .c
  | 2 => .reg .d
  | 3 => .reg .e
  | 4 => .reg .h
  | 5 => .reg .l
  | 6 => .memHL
  | 7 => .reg .a

/-- `r16(p)` (R94). -/
def pairOfCode : Fin 4 → Pair
  | 0 => .bc
  | 1 => .de
  | 2 => .hl
  | 3 => .sp

/-- `r16stk(p)` (R94). -/
def stackPairOfCode : Fin 4 → StackPair
  | 0 => .bc
  | 1 => .de
  | 2 => .hl
  | 3 => .af

/-- `r16mem(p)` (R94). -/
def pairMemOfCode : Fin 4 → PairMem
  | 0 => .bc
  | 1 => .de
  | 2 => .hlInc
  | 3 => .hlDec

/-- `cc` (R95). -/
def condOfCode : Fin 4 → Cond
  | 0 => .nz
  | 1 => .z
  | 2 => .nc
  | 3 => .c

/-- The ALU operation of field y (R96). -/
def aluOfCode : Fin 8 → AluOp
  | 0 => .add
  | 1 => .adc
  | 2 => .sub
  | 3 => .sbc
  | 4 => .and
  | 5 => .xor
  | 6 => .or
  | 7 => .cp

/-- The rotate or shift of field y (R97). -/
def rotOfCode : Fin 8 → RotOp
  | 0 => .rlc
  | 1 => .rrc
  | 2 => .rl
  | 3 => .rr
  | 4 => .sla
  | 5 => .sra
  | 6 => .swap
  | 7 => .srl

/-- The condition in bits 4:3 of an opcode: field y of RET, JP and CALL, field y - 4 of JR (R95). -/
def condField (op : Byte) : Cond := condOfCode (Fin.ofNat 4 (op.toNat / 8))

/-! The decoder. -/

/-- The two-byte opcodes but for the prefix: an operand byte follows (R90). -/
def twoByteOpcodes : List Byte :=
  [0x06, 0x0E, 0x16, 0x1E, 0x26, 0x2E, 0x3E, 0x36, 0x18, 0x20, 0x28, 0x30, 0x38,
    0xC6, 0xCE, 0xD6, 0xDE, 0xE6, 0xEE, 0xF6, 0xFE, 0xE0, 0xF0, 0xE8, 0xF8, 0x10]

/-- The three-byte opcodes: a 16-bit immediate follows, low byte first (R90). -/
def threeByteOpcodes : List Byte :=
  [0x01, 0x11, 0x21, 0x31, 0x08, 0xC3, 0xC2, 0xCA, 0xD2, 0xDA, 0xCD, 0xC4, 0xCC, 0xD4, 0xDC,
    0xEA, 0xFA]

/-- The prefix byte of the second opcode table (R103). -/
def cbPrefix : Byte := 0xCB

/-- An instruction's length, found from its first byte (R90, R103). -/
def lengthOfFirst (op : Byte) : Nat :=
  if op = cbPrefix then 2
  else if twoByteOpcodes.contains op then 2
  else if threeByteOpcodes.contains op then 3
  else 1

/-- The eleven primary opcodes with no instruction (R101). -/
def illegalOpcodes : List Byte :=
  [0xD3, 0xDB, 0xDD, 0xE3, 0xE4, 0xEB, 0xEC, 0xED, 0xF4, 0xFC, 0xFD]

/-- The CB table: the second byte's instruction (R97, R100). -/
def decodeCB (cb : Byte) : Instr :=
  let y := fieldY cb
  let o := operand8OfCode (fieldZ cb)
  match fieldX cb with
  | 0 => Form.rot (rotOfCode y) o
  | 1 => Form.bit y o
  | 2 => Form.res y o
  | _ => Form.set y o

/-- Opcodes 0x00-0x3F (R99). -/
def decodeX0 (op n : Byte) (nn : Word) : Instr :=
  let y := fieldY op
  let p := pairOfCode (fieldP op)
  match fieldZ op with
  | 0 =>
    match y with
    | 0 => .nop
    | 1 => .ld_mN16_sp nn
    | 2 => .stop n
    | 3 => .jr_e8 n
    | _ => Form.jrCond (condField op) n
  | 1 => if fieldQ op then Form.addHL p else Form.ldPairImm p nn
  | 2 =>
    if fieldQ op then Form.ldAMem (pairMemOfCode (fieldP op))
    else Form.ldMemA (pairMemOfCode (fieldP op))
  | 3 => if fieldQ op then Form.decPair p else Form.incPair p
  | 4 => Form.inc (operand8OfCode y)
  | 5 => Form.dec (operand8OfCode y)
  | 6 => Form.ldImm (operand8OfCode y) n
  | _ =>
    match y with
    | 0 => .rlca
    | 1 => .rrca
    | 2 => .rla
    | 3 => .rra
    | 4 => .daa
    | 5 => .cpl
    | 6 => .scf
    | _ => .ccf

/-- Opcodes 0xC0-0xFF but for the prefix (R99). -/
def decodeX3 (op n : Byte) (nn : Word) : Instr :=
  let y := fieldY op
  let p := stackPairOfCode (fieldP op)
  match fieldZ op with
  | 0 =>
    match y with
    | 4 => .ldh_mN8_a n
    | 5 => .add_sp_e8 n
    | 6 => .ldh_a_mN8 n
    | 7 => .ld_hl_sp_e8 n
    | _ => Form.retCond (condField op)
  | 1 =>
    if fieldQ op then
      match fieldP op with
      | 0 => .ret
      | 1 => .reti
      | 2 => .jp_hl
      | _ => .ld_sp_hl
    else Form.pop p
  | 2 =>
    match y with
    | 4 => .ld_mC_a
    | 5 => .ld_mN16_a nn
    | 6 => .ld_a_mC
    | 7 => .ld_a_mN16 nn
    | _ => Form.jpCond (condField op) nn
  | 3 =>
    match y with
    | 0 => .jp_n16 nn
    | 1 => decodeCB n
    | 2 => .illegal_d3
    | 3 => .illegal_db
    | 4 => .illegal_e3
    | 5 => .illegal_eb
    | 6 => .di
    | _ => .ei
  | 4 =>
    match y with
    | 4 => .illegal_e4
    | 5 => .illegal_ec
    | 6 => .illegal_f4
    | 7 => .illegal_fc
    | _ => Form.callCond (condField op) nn
  | 5 =>
    if fieldQ op then
      match fieldP op with
      | 0 => .call_n16 nn
      | 1 => .illegal_dd
      | 2 => .illegal_ed
      | _ => .illegal_fd
    else Form.push p
  | 6 => Form.alu (aluOfCode y) (.imm n)
  | _ => Form.rst y

/-- The instruction whose bytes are `b0 b1 b2` (those past its length are not looked at): total over
both tables (R91, R236). -/
def decodeBytes (b0 b1 b2 : Byte) : Instr :=
  match fieldX b0 with
  | 0 => decodeX0 b0 b1 (catBytes b2 b1)
  | 1 => Form.ld (operand8OfCode (fieldY b0)) (operand8OfCode (fieldZ b0))
  | 2 => Form.alu (aluOfCode (fieldY b0)) (.op (operand8OfCode (fieldZ b0)))
  | _ => decodeX3 b0 b1 (catBytes b2 b1)

/-- Why a byte list is rejected: it ends before the instruction does. -/
inductive DecodeError where
  /-- there is no first byte -/
  | noByte
  /-- the instruction beginning with opcode `op` needs more bytes than there are -/
  | truncated (op : Byte)
  deriving DecidableEq, Repr

/-- The first instruction of a byte list, with the rest of the list; a list too short for it is
rejected by name. -/
def decode : List Byte → Except DecodeError (Instr × List Byte)
  | [] => .error .noByte
  | b0 :: rest =>
    match lengthOfFirst b0, rest with
    | 1, rest => .ok (decodeBytes b0 0 0, rest)
    | 2, b1 :: rest => .ok (decodeBytes b0 b1 0, rest)
    | 3, b1 :: b2 :: rest => .ok (decodeBytes b0 b1 b2, rest)
    | _, _ => .error (.truncated b0)

/-! The encoder: the byte maps R99 (primary) and R100 (CB). -/

/-- A 16-bit immediate after an opcode, low byte first (R74, R98). -/
def withImm16 (op : Byte) (n : Word) : List Byte := [op, loByte n, hiByte n]

/-- The bytes of an instruction (R90, R99, R100). -/
def encode : Instr → List Byte
  | .nop => [0x00]
  | .ld_bc_n16 n => withImm16 0x01 n
  | .ld_mBC_a => [0x02]
  | .inc_bc => [0x03]
  | .inc_b => [0x04]
  | .dec_b => [0x05]
  | .ld_b_n8 n => [0x06, n]
  | .rlca => [0x07]
  | .ld_mN16_sp n => withImm16 0x08 n
  | .add_hl_bc => [0x09]
  | .ld_a_mBC => [0x0A]
  | .dec_bc => [0x0B]
  | .inc_c => [0x0C]
  | .dec_c => [0x0D]
  | .ld_c_n8 n => [0x0E, n]
  | .rrca => [0x0F]
  | .stop x => [0x10, x]
  | .ld_de_n16 n => withImm16 0x11 n
  | .ld_mDE_a => [0x12]
  | .inc_de => [0x13]
  | .inc_d => [0x14]
  | .dec_d => [0x15]
  | .ld_d_n8 n => [0x16, n]
  | .rla => [0x17]
  | .jr_e8 e => [0x18, e]
  | .add_hl_de => [0x19]
  | .ld_a_mDE => [0x1A]
  | .dec_de => [0x1B]
  | .inc_e => [0x1C]
  | .dec_e => [0x1D]
  | .ld_e_n8 n => [0x1E, n]
  | .rra => [0x1F]
  | .jr_nz_e8 e => [0x20, e]
  | .ld_hl_n16 n => withImm16 0x21 n
  | .ld_mHLi_a => [0x22]
  | .inc_hl => [0x23]
  | .inc_h => [0x24]
  | .dec_h => [0x25]
  | .ld_h_n8 n => [0x26, n]
  | .daa => [0x27]
  | .jr_z_e8 e => [0x28, e]
  | .add_hl_hl => [0x29]
  | .ld_a_mHLi => [0x2A]
  | .dec_hl => [0x2B]
  | .inc_l => [0x2C]
  | .dec_l => [0x2D]
  | .ld_l_n8 n => [0x2E, n]
  | .cpl => [0x2F]
  | .jr_nc_e8 e => [0x30, e]
  | .ld_sp_n16 n => withImm16 0x31 n
  | .ld_mHLd_a => [0x32]
  | .inc_sp => [0x33]
  | .inc_mHL => [0x34]
  | .dec_mHL => [0x35]
  | .ld_mHL_n8 n => [0x36, n]
  | .scf => [0x37]
  | .jr_c_e8 e => [0x38, e]
  | .add_hl_sp => [0x39]
  | .ld_a_mHLd => [0x3A]
  | .dec_sp => [0x3B]
  | .inc_a => [0x3C]
  | .dec_a => [0x3D]
  | .ld_a_n8 n => [0x3E, n]
  | .ccf => [0x3F]
  | .ld_b_b => [0x40]
  | .ld_b_c => [0x41]
  | .ld_b_d => [0x42]
  | .ld_b_e => [0x43]
  | .ld_b_h => [0x44]
  | .ld_b_l => [0x45]
  | .ld_b_mHL => [0x46]
  | .ld_b_a => [0x47]
  | .ld_c_b => [0x48]
  | .ld_c_c => [0x49]
  | .ld_c_d => [0x4A]
  | .ld_c_e => [0x4B]
  | .ld_c_h => [0x4C]
  | .ld_c_l => [0x4D]
  | .ld_c_mHL => [0x4E]
  | .ld_c_a => [0x4F]
  | .ld_d_b => [0x50]
  | .ld_d_c => [0x51]
  | .ld_d_d => [0x52]
  | .ld_d_e => [0x53]
  | .ld_d_h => [0x54]
  | .ld_d_l => [0x55]
  | .ld_d_mHL => [0x56]
  | .ld_d_a => [0x57]
  | .ld_e_b => [0x58]
  | .ld_e_c => [0x59]
  | .ld_e_d => [0x5A]
  | .ld_e_e => [0x5B]
  | .ld_e_h => [0x5C]
  | .ld_e_l => [0x5D]
  | .ld_e_mHL => [0x5E]
  | .ld_e_a => [0x5F]
  | .ld_h_b => [0x60]
  | .ld_h_c => [0x61]
  | .ld_h_d => [0x62]
  | .ld_h_e => [0x63]
  | .ld_h_h => [0x64]
  | .ld_h_l => [0x65]
  | .ld_h_mHL => [0x66]
  | .ld_h_a => [0x67]
  | .ld_l_b => [0x68]
  | .ld_l_c => [0x69]
  | .ld_l_d => [0x6A]
  | .ld_l_e => [0x6B]
  | .ld_l_h => [0x6C]
  | .ld_l_l => [0x6D]
  | .ld_l_mHL => [0x6E]
  | .ld_l_a => [0x6F]
  | .ld_mHL_b => [0x70]
  | .ld_mHL_c => [0x71]
  | .ld_mHL_d => [0x72]
  | .ld_mHL_e => [0x73]
  | .ld_mHL_h => [0x74]
  | .ld_mHL_l => [0x75]
  | .halt => [0x76]
  | .ld_mHL_a => [0x77]
  | .ld_a_b => [0x78]
  | .ld_a_c => [0x79]
  | .ld_a_d => [0x7A]
  | .ld_a_e => [0x7B]
  | .ld_a_h => [0x7C]
  | .ld_a_l => [0x7D]
  | .ld_a_mHL => [0x7E]
  | .ld_a_a => [0x7F]
  | .add_a_b => [0x80]
  | .add_a_c => [0x81]
  | .add_a_d => [0x82]
  | .add_a_e => [0x83]
  | .add_a_h => [0x84]
  | .add_a_l => [0x85]
  | .add_a_mHL => [0x86]
  | .add_a_a => [0x87]
  | .adc_a_b => [0x88]
  | .adc_a_c => [0x89]
  | .adc_a_d => [0x8A]
  | .adc_a_e => [0x8B]
  | .adc_a_h => [0x8C]
  | .adc_a_l => [0x8D]
  | .adc_a_mHL => [0x8E]
  | .adc_a_a => [0x8F]
  | .sub_b => [0x90]
  | .sub_c => [0x91]
  | .sub_d => [0x92]
  | .sub_e => [0x93]
  | .sub_h => [0x94]
  | .sub_l => [0x95]
  | .sub_mHL => [0x96]
  | .sub_a => [0x97]
  | .sbc_a_b => [0x98]
  | .sbc_a_c => [0x99]
  | .sbc_a_d => [0x9A]
  | .sbc_a_e => [0x9B]
  | .sbc_a_h => [0x9C]
  | .sbc_a_l => [0x9D]
  | .sbc_a_mHL => [0x9E]
  | .sbc_a_a => [0x9F]
  | .and_b => [0xA0]
  | .and_c => [0xA1]
  | .and_d => [0xA2]
  | .and_e => [0xA3]
  | .and_h => [0xA4]
  | .and_l => [0xA5]
  | .and_mHL => [0xA6]
  | .and_a => [0xA7]
  | .xor_b => [0xA8]
  | .xor_c => [0xA9]
  | .xor_d => [0xAA]
  | .xor_e => [0xAB]
  | .xor_h => [0xAC]
  | .xor_l => [0xAD]
  | .xor_mHL => [0xAE]
  | .xor_a => [0xAF]
  | .or_b => [0xB0]
  | .or_c => [0xB1]
  | .or_d => [0xB2]
  | .or_e => [0xB3]
  | .or_h => [0xB4]
  | .or_l => [0xB5]
  | .or_mHL => [0xB6]
  | .or_a => [0xB7]
  | .cp_b => [0xB8]
  | .cp_c => [0xB9]
  | .cp_d => [0xBA]
  | .cp_e => [0xBB]
  | .cp_h => [0xBC]
  | .cp_l => [0xBD]
  | .cp_mHL => [0xBE]
  | .cp_a => [0xBF]
  | .ret_nz => [0xC0]
  | .pop_bc => [0xC1]
  | .jp_nz_n16 n => withImm16 0xC2 n
  | .jp_n16 n => withImm16 0xC3 n
  | .call_nz_n16 n => withImm16 0xC4 n
  | .push_bc => [0xC5]
  | .add_a_n8 n => [0xC6, n]
  | .rst_00 => [0xC7]
  | .ret_z => [0xC8]
  | .ret => [0xC9]
  | .jp_z_n16 n => withImm16 0xCA n
  | .call_z_n16 n => withImm16 0xCC n
  | .call_n16 n => withImm16 0xCD n
  | .adc_a_n8 n => [0xCE, n]
  | .rst_08 => [0xCF]
  | .ret_nc => [0xD0]
  | .pop_de => [0xD1]
  | .jp_nc_n16 n => withImm16 0xD2 n
  | .illegal_d3 => [0xD3]
  | .call_nc_n16 n => withImm16 0xD4 n
  | .push_de => [0xD5]
  | .sub_n8 n => [0xD6, n]
  | .rst_10 => [0xD7]
  | .ret_c => [0xD8]
  | .reti => [0xD9]
  | .jp_c_n16 n => withImm16 0xDA n
  | .illegal_db => [0xDB]
  | .call_c_n16 n => withImm16 0xDC n
  | .illegal_dd => [0xDD]
  | .sbc_a_n8 n => [0xDE, n]
  | .rst_18 => [0xDF]
  | .ldh_mN8_a n => [0xE0, n]
  | .pop_hl => [0xE1]
  | .ld_mC_a => [0xE2]
  | .illegal_e3 => [0xE3]
  | .illegal_e4 => [0xE4]
  | .push_hl => [0xE5]
  | .and_n8 n => [0xE6, n]
  | .rst_20 => [0xE7]
  | .add_sp_e8 e => [0xE8, e]
  | .jp_hl => [0xE9]
  | .ld_mN16_a n => withImm16 0xEA n
  | .illegal_eb => [0xEB]
  | .illegal_ec => [0xEC]
  | .illegal_ed => [0xED]
  | .xor_n8 n => [0xEE, n]
  | .rst_28 => [0xEF]
  | .ldh_a_mN8 n => [0xF0, n]
  | .pop_af => [0xF1]
  | .ld_a_mC => [0xF2]
  | .di => [0xF3]
  | .illegal_f4 => [0xF4]
  | .push_af => [0xF5]
  | .or_n8 n => [0xF6, n]
  | .rst_30 => [0xF7]
  | .ld_hl_sp_e8 e => [0xF8, e]
  | .ld_sp_hl => [0xF9]
  | .ld_a_mN16 n => withImm16 0xFA n
  | .ei => [0xFB]
  | .illegal_fc => [0xFC]
  | .illegal_fd => [0xFD]
  | .cp_n8 n => [0xFE, n]
  | .rst_38 => [0xFF]
  | .rlc_b => [0xCB, 0x00]
  | .rlc_c => [0xCB, 0x01]
  | .rlc_d => [0xCB, 0x02]
  | .rlc_e => [0xCB, 0x03]
  | .rlc_h => [0xCB, 0x04]
  | .rlc_l => [0xCB, 0x05]
  | .rlc_mHL => [0xCB, 0x06]
  | .rlc_a => [0xCB, 0x07]
  | .rrc_b => [0xCB, 0x08]
  | .rrc_c => [0xCB, 0x09]
  | .rrc_d => [0xCB, 0x0A]
  | .rrc_e => [0xCB, 0x0B]
  | .rrc_h => [0xCB, 0x0C]
  | .rrc_l => [0xCB, 0x0D]
  | .rrc_mHL => [0xCB, 0x0E]
  | .rrc_a => [0xCB, 0x0F]
  | .rl_b => [0xCB, 0x10]
  | .rl_c => [0xCB, 0x11]
  | .rl_d => [0xCB, 0x12]
  | .rl_e => [0xCB, 0x13]
  | .rl_h => [0xCB, 0x14]
  | .rl_l => [0xCB, 0x15]
  | .rl_mHL => [0xCB, 0x16]
  | .rl_a => [0xCB, 0x17]
  | .rr_b => [0xCB, 0x18]
  | .rr_c => [0xCB, 0x19]
  | .rr_d => [0xCB, 0x1A]
  | .rr_e => [0xCB, 0x1B]
  | .rr_h => [0xCB, 0x1C]
  | .rr_l => [0xCB, 0x1D]
  | .rr_mHL => [0xCB, 0x1E]
  | .rr_a => [0xCB, 0x1F]
  | .sla_b => [0xCB, 0x20]
  | .sla_c => [0xCB, 0x21]
  | .sla_d => [0xCB, 0x22]
  | .sla_e => [0xCB, 0x23]
  | .sla_h => [0xCB, 0x24]
  | .sla_l => [0xCB, 0x25]
  | .sla_mHL => [0xCB, 0x26]
  | .sla_a => [0xCB, 0x27]
  | .sra_b => [0xCB, 0x28]
  | .sra_c => [0xCB, 0x29]
  | .sra_d => [0xCB, 0x2A]
  | .sra_e => [0xCB, 0x2B]
  | .sra_h => [0xCB, 0x2C]
  | .sra_l => [0xCB, 0x2D]
  | .sra_mHL => [0xCB, 0x2E]
  | .sra_a => [0xCB, 0x2F]
  | .swap_b => [0xCB, 0x30]
  | .swap_c => [0xCB, 0x31]
  | .swap_d => [0xCB, 0x32]
  | .swap_e => [0xCB, 0x33]
  | .swap_h => [0xCB, 0x34]
  | .swap_l => [0xCB, 0x35]
  | .swap_mHL => [0xCB, 0x36]
  | .swap_a => [0xCB, 0x37]
  | .srl_b => [0xCB, 0x38]
  | .srl_c => [0xCB, 0x39]
  | .srl_d => [0xCB, 0x3A]
  | .srl_e => [0xCB, 0x3B]
  | .srl_h => [0xCB, 0x3C]
  | .srl_l => [0xCB, 0x3D]
  | .srl_mHL => [0xCB, 0x3E]
  | .srl_a => [0xCB, 0x3F]
  | .bit_0_b => [0xCB, 0x40]
  | .bit_0_c => [0xCB, 0x41]
  | .bit_0_d => [0xCB, 0x42]
  | .bit_0_e => [0xCB, 0x43]
  | .bit_0_h => [0xCB, 0x44]
  | .bit_0_l => [0xCB, 0x45]
  | .bit_0_mHL => [0xCB, 0x46]
  | .bit_0_a => [0xCB, 0x47]
  | .bit_1_b => [0xCB, 0x48]
  | .bit_1_c => [0xCB, 0x49]
  | .bit_1_d => [0xCB, 0x4A]
  | .bit_1_e => [0xCB, 0x4B]
  | .bit_1_h => [0xCB, 0x4C]
  | .bit_1_l => [0xCB, 0x4D]
  | .bit_1_mHL => [0xCB, 0x4E]
  | .bit_1_a => [0xCB, 0x4F]
  | .bit_2_b => [0xCB, 0x50]
  | .bit_2_c => [0xCB, 0x51]
  | .bit_2_d => [0xCB, 0x52]
  | .bit_2_e => [0xCB, 0x53]
  | .bit_2_h => [0xCB, 0x54]
  | .bit_2_l => [0xCB, 0x55]
  | .bit_2_mHL => [0xCB, 0x56]
  | .bit_2_a => [0xCB, 0x57]
  | .bit_3_b => [0xCB, 0x58]
  | .bit_3_c => [0xCB, 0x59]
  | .bit_3_d => [0xCB, 0x5A]
  | .bit_3_e => [0xCB, 0x5B]
  | .bit_3_h => [0xCB, 0x5C]
  | .bit_3_l => [0xCB, 0x5D]
  | .bit_3_mHL => [0xCB, 0x5E]
  | .bit_3_a => [0xCB, 0x5F]
  | .bit_4_b => [0xCB, 0x60]
  | .bit_4_c => [0xCB, 0x61]
  | .bit_4_d => [0xCB, 0x62]
  | .bit_4_e => [0xCB, 0x63]
  | .bit_4_h => [0xCB, 0x64]
  | .bit_4_l => [0xCB, 0x65]
  | .bit_4_mHL => [0xCB, 0x66]
  | .bit_4_a => [0xCB, 0x67]
  | .bit_5_b => [0xCB, 0x68]
  | .bit_5_c => [0xCB, 0x69]
  | .bit_5_d => [0xCB, 0x6A]
  | .bit_5_e => [0xCB, 0x6B]
  | .bit_5_h => [0xCB, 0x6C]
  | .bit_5_l => [0xCB, 0x6D]
  | .bit_5_mHL => [0xCB, 0x6E]
  | .bit_5_a => [0xCB, 0x6F]
  | .bit_6_b => [0xCB, 0x70]
  | .bit_6_c => [0xCB, 0x71]
  | .bit_6_d => [0xCB, 0x72]
  | .bit_6_e => [0xCB, 0x73]
  | .bit_6_h => [0xCB, 0x74]
  | .bit_6_l => [0xCB, 0x75]
  | .bit_6_mHL => [0xCB, 0x76]
  | .bit_6_a => [0xCB, 0x77]
  | .bit_7_b => [0xCB, 0x78]
  | .bit_7_c => [0xCB, 0x79]
  | .bit_7_d => [0xCB, 0x7A]
  | .bit_7_e => [0xCB, 0x7B]
  | .bit_7_h => [0xCB, 0x7C]
  | .bit_7_l => [0xCB, 0x7D]
  | .bit_7_mHL => [0xCB, 0x7E]
  | .bit_7_a => [0xCB, 0x7F]
  | .res_0_b => [0xCB, 0x80]
  | .res_0_c => [0xCB, 0x81]
  | .res_0_d => [0xCB, 0x82]
  | .res_0_e => [0xCB, 0x83]
  | .res_0_h => [0xCB, 0x84]
  | .res_0_l => [0xCB, 0x85]
  | .res_0_mHL => [0xCB, 0x86]
  | .res_0_a => [0xCB, 0x87]
  | .res_1_b => [0xCB, 0x88]
  | .res_1_c => [0xCB, 0x89]
  | .res_1_d => [0xCB, 0x8A]
  | .res_1_e => [0xCB, 0x8B]
  | .res_1_h => [0xCB, 0x8C]
  | .res_1_l => [0xCB, 0x8D]
  | .res_1_mHL => [0xCB, 0x8E]
  | .res_1_a => [0xCB, 0x8F]
  | .res_2_b => [0xCB, 0x90]
  | .res_2_c => [0xCB, 0x91]
  | .res_2_d => [0xCB, 0x92]
  | .res_2_e => [0xCB, 0x93]
  | .res_2_h => [0xCB, 0x94]
  | .res_2_l => [0xCB, 0x95]
  | .res_2_mHL => [0xCB, 0x96]
  | .res_2_a => [0xCB, 0x97]
  | .res_3_b => [0xCB, 0x98]
  | .res_3_c => [0xCB, 0x99]
  | .res_3_d => [0xCB, 0x9A]
  | .res_3_e => [0xCB, 0x9B]
  | .res_3_h => [0xCB, 0x9C]
  | .res_3_l => [0xCB, 0x9D]
  | .res_3_mHL => [0xCB, 0x9E]
  | .res_3_a => [0xCB, 0x9F]
  | .res_4_b => [0xCB, 0xA0]
  | .res_4_c => [0xCB, 0xA1]
  | .res_4_d => [0xCB, 0xA2]
  | .res_4_e => [0xCB, 0xA3]
  | .res_4_h => [0xCB, 0xA4]
  | .res_4_l => [0xCB, 0xA5]
  | .res_4_mHL => [0xCB, 0xA6]
  | .res_4_a => [0xCB, 0xA7]
  | .res_5_b => [0xCB, 0xA8]
  | .res_5_c => [0xCB, 0xA9]
  | .res_5_d => [0xCB, 0xAA]
  | .res_5_e => [0xCB, 0xAB]
  | .res_5_h => [0xCB, 0xAC]
  | .res_5_l => [0xCB, 0xAD]
  | .res_5_mHL => [0xCB, 0xAE]
  | .res_5_a => [0xCB, 0xAF]
  | .res_6_b => [0xCB, 0xB0]
  | .res_6_c => [0xCB, 0xB1]
  | .res_6_d => [0xCB, 0xB2]
  | .res_6_e => [0xCB, 0xB3]
  | .res_6_h => [0xCB, 0xB4]
  | .res_6_l => [0xCB, 0xB5]
  | .res_6_mHL => [0xCB, 0xB6]
  | .res_6_a => [0xCB, 0xB7]
  | .res_7_b => [0xCB, 0xB8]
  | .res_7_c => [0xCB, 0xB9]
  | .res_7_d => [0xCB, 0xBA]
  | .res_7_e => [0xCB, 0xBB]
  | .res_7_h => [0xCB, 0xBC]
  | .res_7_l => [0xCB, 0xBD]
  | .res_7_mHL => [0xCB, 0xBE]
  | .res_7_a => [0xCB, 0xBF]
  | .set_0_b => [0xCB, 0xC0]
  | .set_0_c => [0xCB, 0xC1]
  | .set_0_d => [0xCB, 0xC2]
  | .set_0_e => [0xCB, 0xC3]
  | .set_0_h => [0xCB, 0xC4]
  | .set_0_l => [0xCB, 0xC5]
  | .set_0_mHL => [0xCB, 0xC6]
  | .set_0_a => [0xCB, 0xC7]
  | .set_1_b => [0xCB, 0xC8]
  | .set_1_c => [0xCB, 0xC9]
  | .set_1_d => [0xCB, 0xCA]
  | .set_1_e => [0xCB, 0xCB]
  | .set_1_h => [0xCB, 0xCC]
  | .set_1_l => [0xCB, 0xCD]
  | .set_1_mHL => [0xCB, 0xCE]
  | .set_1_a => [0xCB, 0xCF]
  | .set_2_b => [0xCB, 0xD0]
  | .set_2_c => [0xCB, 0xD1]
  | .set_2_d => [0xCB, 0xD2]
  | .set_2_e => [0xCB, 0xD3]
  | .set_2_h => [0xCB, 0xD4]
  | .set_2_l => [0xCB, 0xD5]
  | .set_2_mHL => [0xCB, 0xD6]
  | .set_2_a => [0xCB, 0xD7]
  | .set_3_b => [0xCB, 0xD8]
  | .set_3_c => [0xCB, 0xD9]
  | .set_3_d => [0xCB, 0xDA]
  | .set_3_e => [0xCB, 0xDB]
  | .set_3_h => [0xCB, 0xDC]
  | .set_3_l => [0xCB, 0xDD]
  | .set_3_mHL => [0xCB, 0xDE]
  | .set_3_a => [0xCB, 0xDF]
  | .set_4_b => [0xCB, 0xE0]
  | .set_4_c => [0xCB, 0xE1]
  | .set_4_d => [0xCB, 0xE2]
  | .set_4_e => [0xCB, 0xE3]
  | .set_4_h => [0xCB, 0xE4]
  | .set_4_l => [0xCB, 0xE5]
  | .set_4_mHL => [0xCB, 0xE6]
  | .set_4_a => [0xCB, 0xE7]
  | .set_5_b => [0xCB, 0xE8]
  | .set_5_c => [0xCB, 0xE9]
  | .set_5_d => [0xCB, 0xEA]
  | .set_5_e => [0xCB, 0xEB]
  | .set_5_h => [0xCB, 0xEC]
  | .set_5_l => [0xCB, 0xED]
  | .set_5_mHL => [0xCB, 0xEE]
  | .set_5_a => [0xCB, 0xEF]
  | .set_6_b => [0xCB, 0xF0]
  | .set_6_c => [0xCB, 0xF1]
  | .set_6_d => [0xCB, 0xF2]
  | .set_6_e => [0xCB, 0xF3]
  | .set_6_h => [0xCB, 0xF4]
  | .set_6_l => [0xCB, 0xF5]
  | .set_6_mHL => [0xCB, 0xF6]
  | .set_6_a => [0xCB, 0xF7]
  | .set_7_b => [0xCB, 0xF8]
  | .set_7_c => [0xCB, 0xF9]
  | .set_7_d => [0xCB, 0xFA]
  | .set_7_e => [0xCB, 0xFB]
  | .set_7_h => [0xCB, 0xFC]
  | .set_7_l => [0xCB, 0xFD]
  | .set_7_mHL => [0xCB, 0xFE]
  | .set_7_a => [0xCB, 0xFF]

/-! The opcode table's numbering of an instruction's bits. -/

/-- The three bytes of an instruction whose bits are `w`, numbered as spec/opcode_table.json numbers
them. The table reads a primary row's bits from the first byte, bit 0 of that byte being bit 0; a
CB row's 16 bits it reads as `first_byte << 8 | second_byte` (30_encoding.md, preamble), so there
the prefix is bits 15..8. Log entry 7. -/
def tableBytes (nbits w : Nat) : Byte × Byte × Byte :=
  let b0 := BitVec.ofNat 8 w
  let b1 := BitVec.ofNat 8 (w / 256)
  if nbits = 16 ∧ b1 = cbPrefix then (b1, b0, 0)
  else (b0, b1, BitVec.ofNat 8 (w / 65536))

/-- The instruction the decoder reads from an instruction whose bits are `w`, every bit above
`nbits` being 0. -/
def decodeTableWord (nbits w : Nat) : Option Instr :=
  let t := tableBytes nbits (w % 2 ^ nbits)
  match decode [t.1, t.2.1, t.2.2] with
  | .ok r => some r.1
  | .error _ => none

end Sys2Proof
end

