-- ==== Sys2Proof/Machine/Memory.lean ====
section
/-!
DEFINITION. A sparse byte store in one canonical form: (address, byte) pairs with addresses
strictly rising. ROM, cartridge RAM and the flat array are each one store. An unlisted byte of RAM
or of the flat array is an undrawn free value (log entry 1); an unlisted byte of ROM is 0x00 and no
0x00 is listed there (log entry 3).
-/
namespace Sys2Proof.Machine

/-- A store: the listed bytes, addresses strictly rising. -/
abbrev Memory := List Host.Cell

/-- The byte listed at `a`, if one is. -/
def Memory.get : Memory → Nat → Option Byte
  | [], _ => none
  | (k, v) :: m, a => if a = k then some v else Memory.get m a

/-- List `v` at `a`, in its place. -/
def Memory.set : Memory → Nat → Byte → Memory
  | [], a, v => [(a, v)]
  | (k, w) :: m, a, v =>
    if a < k then (a, v) :: (k, w) :: m
    else if a = k then (a, v) :: m
    else (k, w) :: Memory.set m a v

/-- Take the byte at `a` off the list. -/
def Memory.del : Memory → Nat → Memory
  | [], _ => []
  | (k, w) :: m, a => if a = k then m else (k, w) :: Memory.del m a

/-- Write `v` at `a` in a store whose unlisted bytes are `d`: the value `d` is not listed. -/
def Memory.setOver (d : Byte) (m : Memory) (a : Nat) (v : Byte) : Memory :=
  if v = d then m.del a else m.set a v

/-- Every listed address is above `a`. -/
def Memory.above (a : Nat) (m : Memory) : Bool :=
  match m with
  | [] => true
  | (k, _) :: m => decide (a < k) && Memory.above a m

/-- The canonical form: addresses strictly rising. -/
def Memory.wf : Memory → Bool
  | [] => true
  | (k, _) :: m => Memory.above k m && Memory.wf m

/-- The bytes of an image laid out from address `a`, unlisted bytes being 0x00. -/
def Memory.ofBytes (a : Nat) : List Byte → Memory
  | [] => []
  | v :: vs => if v = 0 then Memory.ofBytes (a + 1) vs else (a, v) :: Memory.ofBytes (a + 1) vs

end Sys2Proof.Machine
end

