-- ==== Sys2Proof/Machine/Params.lean ====
section
/-!
DEFINITION. The parameters the spec fixes (00_scope.md R5) and the cartridge families
(20_memory.md R65).
-/
namespace Sys2Proof.Machine

/-- The value of a read that no storage answers: disabled cartridge RAM (R58, D5). -/
def openBus : Byte := 0xFF

/-- Bytes of cartridge RAM: 32 KiB (R5, D10). -/
def cartRamSize : Nat := 0x8000

/-- The shortest ROM image (R5, D11). -/
def romMinSize : Nat := 0x4000

/-- Cycles an interrupt dispatch costs (R249, D17). -/
def dispatchCycles : Nat := 20

/-- Cycles of a halted tick (R232). -/
def haltedCycles : Nat := 4

/-- The ROM offset of the cartridge-type byte (R41, R65). -/
def cartTypeOffset : Nat := 0x147

/-- The bank controller families (R65). -/
inductive Family where
  | romOnly
  | mbc1
  | mbc2
  | mbc3
  | mbc5
  | unsupported
  deriving DecidableEq, Repr

/-- `FAMILY_OF`: the family of a cartridge-type byte (R65). -/
def familyOf (t : Byte) : Family :=
  let n := t.toNat
  if n = 0x00 then .romOnly
  else if 0x01 ≤ n ∧ n ≤ 0x03 then .mbc1
  else if 0x05 ≤ n ∧ n ≤ 0x06 then .mbc2
  else if 0x0F ≤ n ∧ n ≤ 0x13 then .mbc3
  else if 0x19 ≤ n ∧ n ≤ 0x1B then .mbc5
  else .unsupported

/-- The byte of a ROM image at index `i`; an unlisted byte is 0x00 (R41, log entry 3). -/
def romRead (rom : Memory) (i : Nat) : Byte := (rom.get i).getD 0

/-- Cycles per TIMA increment, as TAC's clock select gives them (R38, R39). -/
inductive Scaler where
  | by1024
  | by16
  | by64
  | by256
  deriving DecidableEq, Repr

/-- The scaler in cycles (R39). -/
def Scaler.cycles : Scaler → Nat
  | .by1024 => 1024
  | .by16 => 16
  | .by64 => 64
  | .by256 => 256

/-- `SCALE`: the scaler TAC bits 1:0 select (R38, R54). -/
def scaleOf (tac : Byte) : Scaler :=
  match tac.toNat % 4 with
  | 0 => .by1024
  | 1 => .by16
  | 2 => .by64
  | _ => .by256

end Sys2Proof.Machine
end

