-- ==== Sys2Proof/Machine/State.lean ====
section
/-!
DEFINITION. The state of the machine: everything 10_state.md R45 lists, as plain data, and the
state right after reset (R44; 70_reset_and_hazards.md R280). The last record, `Env`, is the model's
own: it says which draws of the open parameters come next (log entries 1 and 2).
-/
namespace Sys2Proof.Machine

/-- The 8-bit registers but F, which is the packed flags (R20, R22). -/
structure Regs where
  a : Byte
  b : Byte
  c : Byte
  d : Byte
  e : Byte
  h : Byte
  l : Byte
  deriving DecidableEq, Repr

/-- The condition flags Z, N, H, C (R26); F is their packed byte (R22). -/
structure Flags where
  z : Bool
  n : Bool
  h : Bool
  c : Bool
  deriving DecidableEq, Repr

/-- The interrupt state: IME (R28), eiDelay (R29, 0..2), IF (R33), IE (R34). -/
structure Irq where
  ime : Bool
  eiDelay : Nat
  ifr : Byte
  ie : Byte
  deriving DecidableEq, Repr

/-- The timer: DIV, TIMA, TMA, TAC (R35-R38) and the hidden divCounter, scaler, timaCounter
(R39). -/
structure Timer where
  div : Byte
  tima : Byte
  tma : Byte
  tac : Byte
  divCounter : Nat
  scaler : Scaler
  timaCounter : Int
  deriving DecidableEq, Repr

/-- The bank controller's registers (R40). -/
structure Bank where
  romBank : BitVec 9
  ramBank : BitVec 4
  mbcMode : Bool
  ramEnabled : Bool
  deriving DecidableEq, Repr

/-- The cartridge (R41): the ROM image and its length `L`, its RAM, the controller family, and the
diagnostic `cartDiag` (R32, R72). -/
structure Cart where
  rom : Memory
  romLen : Nat
  ram : Memory
  family : Family
  diag : Bool
  deriving DecidableEq, Repr

/-- Why a fault was raised; the spec's code for ILLEGAL_OPCODE is 1 (R243). -/
inductive FaultReason where
  /-- ILLEGAL_OPCODE: one of the eleven unused opcodes was executed (R237). -/
  | illegalOpcode
  deriving DecidableEq, Repr

/-- The fault record: reason, address and opcode byte of the faulting instruction (R242). -/
structure FaultRecord where
  reason : FaultReason
  pc : Word
  op : Byte
  deriving DecidableEq, Repr

/-- The MODEL's own: which draws of the open parameters come next. `resets` counts resets and
selects the INIT_MEM draw (log entry 1); `draws` counts EXT_IRQ draws; `script` holds the external
requests already fixed for the next draws, first one first, and once it is empty a draw is the free
value `Config.extIrq` (log entry 2). -/
structure Env where
  resets : Nat
  draws : Nat
  script : List Byte
  deriving DecidableEq, Repr

/-- The whole state (R45). `mem` is the flat array without the six core registers, which live in
`timer` and `irq` (R42, log entry 6). -/
structure State where
  regs : Regs
  flags : Flags
  sp : Word
  pc : Word
  irq : Irq
  halted : Bool
  running : Bool
  fault : Option FaultRecord
  timer : Timer
  bank : Bank
  cart : Cart
  mem : Memory
  env : Env
  deriving DecidableEq, Repr

/-- Reasons for the HOST's fault outcome: there are none. The spec decodes every address (R62),
gives every opcode an effect (R236) and describes the effect of its one fault on the state (R241),
so that fault is a next state and nothing raises an outcome of this type (safe). -/
inductive Fault where
  deriving DecidableEq, Repr

/-- Reasons for a refusal. -/
inductive Refusal where
  /-- An instruction with no meaning yet, named as the opcode table names it: raised by an arm of
  `exec` alone; no arm raises it now. Safe: no effect is claimed. -/
  | notModelled (mnemonic : String)
  /-- `loadRom` while `running = 1` (R282, R266, D30): raised by the host operation `loadRom`, by no
  step. Safe: the spec has no transition there. -/
  | loadWhileRunning
  /-- `loadRom` of an image shorter than 0x4000 bytes (R282, D11): raised by the host operation
  `loadRom`, by no step. Safe: the spec has no transition there. -/
  | imageTooShort
  deriving DecidableEq, Repr

/-- What executing an instruction answers. -/
abbrev Result := Host.Outcome State Fault Refusal

/-- The state right after reset with a given ROM image, `env` saying which draws follow (R44,
R280). -/
def State.powerOn (rom : Memory) (romLen : Nat) (env : Env) : State where
  regs := { a := 0x01, b := 0x00, c := 0x13, d := 0x00, e := 0xD8, h := 0x01, l := 0x4D }
  flags := { z := true, n := false, h := true, c := true }
  sp := 0xFFFE
  pc := 0x0100
  irq := { ime := false, eiDelay := 0, ifr := 0x00, ie := 0x00 }
  halted := false
  running := true
  fault := none
  timer :=
    { div := 0x00, tima := 0x00, tma := 0x00, tac := 0x00,
      divCounter := 0, scaler := .by1024, timaCounter := 1024 }
  bank := { romBank := 1, ramBank := 0, mbcMode := false, ramEnabled := false }
  cart :=
    { rom := rom, romLen := romLen, ram := [],
      family := familyOf (romRead rom cartTypeOffset),
      diag := decide (familyOf (romRead rom cartTypeOffset) = .unsupported) }
  mem := []
  env := env

/-- The machine right after reset (R44, R280), no program loaded: the ROM is a blank image of 0x8000
bytes 0x00, a DESIGN CHOICE (log entry 3). -/
def State.reset : State := State.powerOn [] 0x8000 { resets := 0, draws := 0, script := [] }

end Sys2Proof.Machine
end

