-- ==== Sys2Proof/Machine/Ops.lean ====
section
/-!
DEFINITION. The named operations over registers, memory and the control state: register access
(10_state.md R20-R25), the bus with the bank controller behind it (20_memory.md R50-R73), the stack
(44_load_stack.md R200, R201), taking the one fault and taking an interrupt (60_exceptions.md R241,
R249) and the return from one (R254).
-/
namespace Sys2Proof.Machine

/-! Registers. -/

/-- The flag byte, `Z<<7 | N<<6 | H<<5 | C<<4` (R22). -/
def Flags.toByte (f : Flags) : Byte :=
  BitVec.ofBool f.z ++ BitVec.ofBool f.n ++ BitVec.ofBool f.h ++ BitVec.ofBool f.c ++ 0#4

/-- The flags of a byte's top four bits; its low nibble is discarded (R21, R201). -/
def Flags.ofByte (v : Byte) : Flags :=
  { z := v.getLsbD 7, n := v.getLsbD 6, h := v.getLsbD 5, c := v.getLsbD 4 }

/-- F, the packed flags of the state (R22). -/
def State.f (s : State) : Byte := s.flags.toByte

/-- BC (R21). -/
def State.bc (s : State) : Word := catBytes s.regs.b s.regs.c

/-- DE (R21). -/
def State.de (s : State) : Word := catBytes s.regs.d s.regs.e

/-- HL (R21). -/
def State.hl (s : State) : Word := catBytes s.regs.h s.regs.l

/-- AF (R21). -/
def State.af (s : State) : Word := catBytes s.regs.a s.f

/-- Read an 8-bit register (R9, R20). -/
def State.reg (s : State) : Reg8 → Byte
  | .b => s.regs.b
  | .c => s.regs.c
  | .d => s.regs.d
  | .e => s.regs.e
  | .h => s.regs.h
  | .l => s.regs.l
  | .a => s.regs.a

/-- Write an 8-bit register (R9, R20). -/
def State.setReg (s : State) (r : Reg8) (v : Byte) : State :=
  match r with
  | .b => { s with regs.b := v }
  | .c => { s with regs.c := v }
  | .d => { s with regs.d := v }
  | .e => { s with regs.e := v }
  | .h => { s with regs.h := v }
  | .l => { s with regs.l := v }
  | .a => { s with regs.a := v }

/-- Write A. -/
def State.setA (s : State) (v : Byte) : State := { s with regs.a := v }

/-- Write all four flags. -/
def State.setFlags (s : State) (f : Flags) : State := { s with flags := f }

/-- Write HL (R21). -/
def State.setHL (s : State) (v : Word) : State :=
  { s with regs.h := hiByte v, regs.l := loByte v }

/-- Read a pair `r16(p)` (R94). -/
def State.pair (s : State) : Pair → Word
  | .bc => s.bc
  | .de => s.de
  | .hl => s.hl
  | .sp => s.sp

/-- Write a pair `r16(p)`: the first-named register takes the high byte (R21). -/
def State.setPair (s : State) (p : Pair) (v : Word) : State :=
  match p with
  | .bc => { s with regs.b := hiByte v, regs.c := loByte v }
  | .de => { s with regs.d := hiByte v, regs.e := loByte v }
  | .hl => s.setHL v
  | .sp => { s with sp := v }

/-- Read a pair `r16stk(p)`; AF is the packed flag byte's (R94, R200). -/
def State.stackPair (s : State) : StackPair → Word
  | .bc => s.bc
  | .de => s.de
  | .hl => s.hl
  | .af => s.af

/-- Write a pair `r16stk(p)`; AF keeps only the top four bits of the low byte (R21, R201). -/
def State.setStackPair (s : State) (p : StackPair) (v : Word) : State :=
  match p with
  | .bc => { s with regs.b := hiByte v, regs.c := loByte v }
  | .de => { s with regs.d := hiByte v, regs.e := loByte v }
  | .hl => s.setHL v
  | .af => { s with regs.a := hiByte v, flags := Flags.ofByte (loByte v) }

/-- `PC <- next` of an instruction of `n` bytes, before its effect (R11, R25). -/
def State.advance (s : State) (n : Nat) : State := { s with pc := s.pc + BitVec.ofNat 16 n }

/-- `PC <- v`. -/
def State.setPc (s : State) (v : Word) : State := { s with pc := v }

/-- `SP <- v`. -/
def State.setSp (s : State) (v : Word) : State := { s with sp := v }

/-! The bus: reading. -/

/-- The RAM bank in effect: gated by the mode for MBC1, always applied for MBC3 and MBC5 (R73). -/
def State.effRamBank (s : State) : Nat :=
  match s.cart.family with
  | .mbc1 => if s.bank.mbcMode then s.bank.ramBank.toNat else 0
  | .mbc3 => s.bank.ramBank.toNat
  | .mbc5 => s.bank.ramBank.toNat
  | .romOnly => 0
  | .mbc2 => 0
  | .unsupported => 0

/-- The RAM index of an address of the RAM window (R57). -/
def State.ramIndex (s : State) (a : Nat) : Nat :=
  ((a - 0xA000) + s.effRamBank * 0x2000) % cartRamSize

/-- The ROM index of an address of the switchable window (R56). -/
def State.romIndex (s : State) (a : Nat) : Nat :=
  ((s.bank.romBank.toNat - 1) * 0x4000 + a) % s.cart.romLen

/-- A storage cell, as R82 names them: a byte of ROM, of cartridge RAM or of the flat array; or no
storage, where a read gives OPEN_BUS (R58). -/
inductive Cell where
  | rom (i : Nat)
  | ram (i : Nat)
  | flat (i : Nat)
  | openBus
  deriving DecidableEq, Repr

/-- The cell an address names, by the decode of R53. -/
def State.cellAt (s : State) (addr : Word) : Cell :=
  let a := addr.toNat
  if a < 0x4000 then .rom a
  else if a < 0x8000 then .rom (s.romIndex a)
  else if 0xA000 ≤ a ∧ a < 0xC000 then
    if s.bank.ramEnabled then .ram (s.ramIndex a) else .openBus
  else if 0xE000 ≤ a ∧ a < 0xFE00 then .flat (a - 0x2000)
  else .flat a

/-- The byte of the flat array at `a`: one of the six core registers (R33-R38), or the byte last
written there, or the undrawn initial content (R42, R62, D9). -/
def State.readFlat (s : State) (a : Nat) : Byte :=
  if a = 0xFF04 then s.timer.div
  else if a = 0xFF05 then s.timer.tima
  else if a = 0xFF06 then s.timer.tma
  else if a = 0xFF07 then s.timer.tac
  else if a = 0xFF0F then s.irq.ifr
  else if a = 0xFFFF then s.irq.ie
  else (s.mem.get a).getD (Config.initMem s.env.resets a)

/-- The byte a cell holds. -/
def State.readCell (s : State) : Cell → Byte
  | .rom i => romRead s.cart.rom i
  | .ram i => (s.cart.ram.get i).getD (Config.initRam s.env.resets i)
  | .flat i => s.readFlat i
  | .openBus => openBus

/-- `read(addr)` (R51, R53). It changes nothing. -/
def State.busRead (s : State) (addr : Word) : Byte := s.readCell (s.cellAt addr)

/-! The bank controller (R63-R72). -/

/-- "ROM bank index 0 requested: silently remapped to 1" (R73). -/
def clampBank (b : BitVec 9) : BitVec 9 := if b = 0 then 1 else b

/-- The RAM-enable criterion: the low nibble is 0xA (R67-R69, R71). -/
def enablesRam (v : Byte) : Bool := decide (v.toNat % 16 = 0xA)

/-- `mbcWrite_MBC1` (R67). -/
def mbc1Write (b : Bank) (addr : Word) (v : Byte) : Bank :=
  let a := addr.toNat
  if a ≤ 0x1FFF then { b with ramEnabled := enablesRam v }
  else if a ≤ 0x3FFF then
    { b with romBank := (b.romBank &&& 0x60) ||| clampBank ((v.extractLsb' 0 5).setWidth 9) }
  else if a ≤ 0x5FFF then
    if b.mbcMode then { b with ramBank := (v.extractLsb' 0 2).setWidth 4 }
    else
      { b with romBank := (b.romBank &&& 0x1F) ||| ((v.extractLsb' 0 2).setWidth 9 <<< 5) }
  else { b with mbcMode := v.getLsbD 0 }

/-- `mbcWrite_MBC2` (R68). -/
def mbc2Write (b : Bank) (addr : Word) (v : Byte) : Bank :=
  let a := addr.toNat
  if a ≤ 0x1FFF ∧ addr.getLsbD 8 = false then { b with ramEnabled := enablesRam v }
  else if a ≤ 0x3FFF ∧ addr.getLsbD 8 = true then
    { b with romBank := clampBank ((v.extractLsb' 0 5).setWidth 9) }
  else b

/-- `mbcWrite_MBC3`: the clock's commands are no-ops (R69, R70). -/
def mbc3Write (b : Bank) (addr : Word) (v : Byte) : Bank :=
  let a := addr.toNat
  if a ≤ 0x1FFF then { b with ramEnabled := enablesRam v }
  else if a ≤ 0x3FFF then { b with romBank := clampBank ((v.extractLsb' 0 7).setWidth 9) }
  else if a ≤ 0x5FFF then
    if v.toNat < 8 then { b with ramBank := v.setWidth 4 } else b
  else b

/-- `mbcWrite_MBC5` (R71). -/
def mbc5Write (b : Bank) (addr : Word) (v : Byte) : Bank :=
  let a := addr.toNat
  if a ≤ 0x1FFF then { b with ramEnabled := enablesRam v }
  else if a ≤ 0x2FFF then
    { b with romBank := clampBank ((b.romBank &&& 0x100) ||| v.setWidth 9) }
  else if a ≤ 0x3FFF then
    { b with
      romBank := clampBank ((b.romBank &&& 0xFF) ||| ((v.extractLsb' 0 1).setWidth 9 <<< 8)) }
  else if a ≤ 0x5FFF then { b with ramBank := v.extractLsb' 0 4 }
  else b

/-- `mbcWrite`: the command a write below 0x8000 is, by family; ROM only and unsupported
cartridges take no command (R64, R66, R72). -/
def mbcWrite (fam : Family) (b : Bank) (addr : Word) (v : Byte) : Bank :=
  match fam with
  | .romOnly => b
  | .mbc1 => mbc1Write b addr v
  | .mbc2 => mbc2Write b addr v
  | .mbc3 => mbc3Write b addr v
  | .mbc5 => mbc5Write b addr v
  | .unsupported => b

/-! The bus: writing. -/

/-- Store a byte of the flat array, with the side effects of TAC (R60) and DIV (R61); the other four
core registers are plain storage (R62). -/
def State.writeFlat (s : State) (a : Nat) (v : Byte) : State :=
  if a = 0xFF07 then
    { s with
      timer.tac := v, timer.scaler := scaleOf v, timer.timaCounter := (scaleOf v).cycles }
  else if a = 0xFF04 then { s with timer.div := 0, timer.divCounter := 0 }
  else if a = 0xFF05 then { s with timer.tima := v }
  else if a = 0xFF06 then { s with timer.tma := v }
  else if a = 0xFF0F then { s with irq.ifr := v }
  else if a = 0xFFFF then { s with irq.ie := v }
  else { s with mem := s.mem.set a v }

/-- `write(addr, v)` (R51, R54): below 0x8000 a bank-control command, else a store to the cell the
address names; with no storage there the write is dropped (R58). -/
def State.busWrite (s : State) (addr : Word) (v : Byte) : State :=
  if addr.toNat < 0x8000 then { s with bank := mbcWrite s.cart.family s.bank addr v }
  else
    match s.cellAt addr with
    | .rom _ => s
    | .ram i => { s with cart.ram := s.cart.ram.set i v }
    | .flat a => s.writeFlat a v
    | .openBus => s

/-- `write16(addr, lo, hi)` and `MemWrite(addr, 2, v)`: the low byte first, at the lower address
(R10, R52). -/
def State.busWrite16 (s : State) (addr : Word) (v : Word) : State :=
  (s.busWrite addr (loByte v)).busWrite (addr + 1) (hiByte v)

/-! The stack. -/

/-- Push a word: SP down, high byte, SP down, low byte (R200, R216, R249). -/
def State.push (s : State) (v : Word) : State :=
  let s1 := s.setSp (s.sp - 1)
  let s2 := s1.busWrite s1.sp (hiByte v)
  let s3 := s2.setSp (s2.sp - 1)
  s3.busWrite s3.sp (loByte v)

/-- The word a pop reads: low byte at SP, high byte at SP + 1 (R201, R218). -/
def State.popValue (s : State) : Word := catBytes (s.busRead (s.sp + 1)) (s.busRead s.sp)

/-- SP past a popped word (R201, R218). -/
def State.popped (s : State) : State := s.setSp (s.sp + 2)

/-! Exceptions and the return from one. -/

/-- `fault(reason, pc, op)`: the core stops, IME is cleared, the record is kept; nothing else changes
(R241). PC holds the faulting instruction's address. -/
def State.raiseFault (s : State) (reason : FaultReason) (op : Byte) : State :=
  { s with
    running := false
    irq.ime := false
    fault := some { reason := reason, pc := s.pc, op := op } }

/-- The interrupt to be dispatched, if one is requested and enabled: "check bits from 0 upward"
(R245, R248). Bits 7:5 take no part. -/
def State.pending (s : State) : Option (Fin 5) :=
  [(0 : Fin 5), 1, 2, 3, 4].find? fun k => s.irq.ie.getLsbD k && s.irq.ifr.getLsbD k

/-- The vector of interrupt `k` (R244, R249). -/
def vectorOf (k : Fin 5) : Word := BitVec.ofNat 16 (0x40 + 8 * k.val)

/-- `dispatch(pending)` for source `k`: clear its request, IME, a pending EI and the halted state,
push PC, go to the vector (R249). The pushes go where R249's pseudocode puts them, the high byte at SP - 1
and the low byte at SP - 2; its remark on SP = 0xFF10, which has the second byte overwrite IF there, does
not fit that (DEDUCED, log entry 22). -/
def State.dispatch (s : State) (k : Fin 5) : State :=
  let s1 :=
    { s with
      irq.ifr := s.irq.ifr &&& ~~~(BitVec.twoPow 8 k.val)
      irq.ime := false
      irq.eiDelay := 0
      halted := false }
  (s1.push s.pc).setPc (vectorOf k)

/-- The body of RET: pop an address and jump (R218). -/
def State.doReturn (s : State) : State := s.popped.setPc s.popValue

/-- The return from an interrupt: the body of RET, and IME set at once; a pending EI delay is left
as it is (R220, R254). -/
def State.returnFromInterrupt (s : State) : State := { s.doReturn with irq.ime := true }

/-- The body of CALL: push the address of the next instruction and jump (R216). -/
def State.doCall (s : State) (target : Word) : State := (s.push s.pc).setPc target

end Sys2Proof.Machine
end

