-- ==== Sys2Proof/Machine/Operands.lean ====
section
/-!
DEFINITION. The operand forms of 30_encoding.md R93-R98 as operations on the state: 8-bit operands,
ALU sources, the address forms of the loads of A, the high page, and the conditions.
-/
namespace Sys2Proof.Machine

/-- Read the operand `r8(k)`; code 6 is one bus read at HL (R93). -/
def State.readOp (s : State) : Operand8 → Byte
  | .reg r => s.reg r
  | .memHL => s.busRead s.hl

/-- Write the operand `r8(k)`; code 6 is one bus write at HL (R93). -/
def State.writeOp (s : State) (o : Operand8) (v : Byte) : State :=
  match o with
  | .reg r => s.setReg r v
  | .memHL => s.busWrite s.hl v

/-- The source value of an ALU operation (R110). -/
def State.srcValue (s : State) : Src → Byte
  | .op o => s.readOp o
  | .imm n => n

/-- The length of an ALU instruction with this source (R110). -/
def srcLength : Src → Nat
  | .op _ => 1
  | .imm _ => 2

/-- The address of an operand `r16mem(p)` (R94). -/
def State.memAddr (s : State) : PairMem → Word
  | .bc => s.bc
  | .de => s.de
  | .hlInc => s.hl
  | .hlDec => s.hl

/-- The step of HL that an operand `r16mem(p)` makes after its access (R94, R187-R190). -/
def State.memStep (s : State) : PairMem → State
  | .bc => s
  | .de => s
  | .hlInc => s.setHL (s.hl + 1)
  | .hlDec => s.setHL (s.hl - 1)

/-- The address `0xFF00 + n` of the high-page forms (R98). -/
def highPage (n : Byte) : Word := 0xFF00#16 + n.setWidth 16

/-- The condition holds, read when it is reached (R95, R210). -/
def holds (f : Flags) : Cond → Bool
  | .nz => !f.z
  | .z => f.z
  | .nc => !f.c
  | .c => f.c

end Sys2Proof.Machine
end

