-- ==== Sys2Proof/Machine/Cycles.lean ====
section
/-!
DEFINITION. What each instruction costs: the table `CYCLES` of 70_reset_and_hazards.md R285.
-/
namespace Sys2Proof.Machine

/-- An entry of the table: a count; `taken/not taken`; the illegal opcodes' dash; the byte that leads
to the CB table. -/
inductive Cost where
  | always (n : Nat)
  | branch (taken notTaken : Nat)
  | noCost
  | cbTable
  deriving DecidableEq, Repr

/-- Entry `n`. -/
def cyc (n : Nat) : Cost := .always n

/-- Entry `t/u`. -/
def cycIf (t u : Nat) : Cost := .branch t u

/-- The primary table, row by high nibble, column by low nibble (R285). -/
def primaryCosts : List (List Cost) :=
  [ [cyc 4, cyc 12, cyc 8, cyc 8, cyc 4, cyc 4, cyc 8, cyc 4, cyc 20, cyc 8, cyc 8, cyc 8, cyc 4, cyc 4, cyc 8, cyc 4],
    [cyc 4, cyc 12, cyc 8, cyc 8, cyc 4, cyc 4, cyc 8, cyc 4, cyc 12, cyc 8, cyc 8, cyc 8, cyc 4, cyc 4, cyc 8, cyc 4],
    [cycIf 12 8, cyc 12, cyc 8, cyc 8, cyc 4, cyc 4, cyc 8, cyc 4, cycIf 12 8, cyc 8, cyc 8, cyc 8, cyc 4, cyc 4, cyc 8, cyc 4],
    [cycIf 12 8, cyc 12, cyc 8, cyc 8, cyc 12, cyc 12, cyc 12, cyc 4, cycIf 12 8, cyc 8, cyc 8, cyc 8, cyc 4, cyc 4, cyc 8, cyc 4],
    [cyc 4, cyc 4, cyc 4, cyc 4, cyc 4, cyc 4, cyc 8, cyc 4, cyc 4, cyc 4, cyc 4, cyc 4, cyc 4, cyc 4, cyc 8, cyc 4],
    [cyc 4, cyc 4, cyc 4, cyc 4, cyc 4, cyc 4, cyc 8, cyc 4, cyc 4, cyc 4, cyc 4, cyc 4, cyc 4, cyc 4, cyc 8, cyc 4],
    [cyc 4, cyc 4, cyc 4, cyc 4, cyc 4, cyc 4, cyc 8, cyc 4, cyc 4, cyc 4, cyc 4, cyc 4, cyc 4, cyc 4, cyc 8, cyc 4],
    [cyc 8, cyc 8, cyc 8, cyc 8, cyc 8, cyc 8, cyc 4, cyc 8, cyc 4, cyc 4, cyc 4, cyc 4, cyc 4, cyc 4, cyc 8, cyc 4],
    [cyc 4, cyc 4, cyc 4, cyc 4, cyc 4, cyc 4, cyc 8, cyc 4, cyc 4, cyc 4, cyc 4, cyc 4, cyc 4, cyc 4, cyc 8, cyc 4],
    [cyc 4, cyc 4, cyc 4, cyc 4, cyc 4, cyc 4, cyc 8, cyc 4, cyc 4, cyc 4, cyc 4, cyc 4, cyc 4, cyc 4, cyc 8, cyc 4],
    [cyc 4, cyc 4, cyc 4, cyc 4, cyc 4, cyc 4, cyc 8, cyc 4, cyc 4, cyc 4, cyc 4, cyc 4, cyc 4, cyc 4, cyc 8, cyc 4],
    [cyc 4, cyc 4, cyc 4, cyc 4, cyc 4, cyc 4, cyc 8, cyc 4, cyc 4, cyc 4, cyc 4, cyc 4, cyc 4, cyc 4, cyc 8, cyc 4],
    [cycIf 20 8, cyc 12, cycIf 16 12, cyc 16, cycIf 24 12, cyc 16, cyc 8, cyc 16,
      cycIf 20 8, cyc 16, cycIf 16 12, .cbTable, cycIf 24 12, cyc 24, cyc 8, cyc 16],
    [cycIf 20 8, cyc 12, cycIf 16 12, .noCost, cycIf 24 12, cyc 16, cyc 8, cyc 16,
      cycIf 20 8, cyc 16, cycIf 16 12, .noCost, cycIf 24 12, .noCost, cyc 8, cyc 16],
    [cyc 12, cyc 12, cyc 8, .noCost, .noCost, cyc 16, cyc 8, cyc 16,
      cyc 16, cyc 4, cyc 16, .noCost, .noCost, .noCost, cyc 8, cyc 16],
    [cyc 12, cyc 12, cyc 8, cyc 4, .noCost, cyc 16, cyc 8, cyc 16,
      cyc 12, cyc 8, cyc 16, cyc 4, .noCost, .noCost, cyc 8, cyc 16] ]

/-- The CB table: 8 cycles on a register; on (HL) 12 for BIT, 16 for every other (R285). -/
def cbCost (cb : Byte) : Nat :=
  if fieldZ cb = 6 then if fieldX cb = 1 then 12 else 16 else 8

/-- The entry of an opcode in the primary table. -/
def primaryCost (op : Byte) : Cost :=
  ((primaryCosts[op.toNat / 16]?).getD [])[op.toNat % 16]?.getD .noCost

/-- The cycles of the instruction with bytes `op b1 …`, a branch being taken or not by the flags it
executes with (R210, R285). -/
def costOfBytes (f : Flags) : List Byte → Nat
  | [] => 0
  | op :: rest =>
    match primaryCost op with
    | .always n => n
    | .branch taken notTaken => if holds f (condField op) then taken else notTaken
    | .noCost => 0
    | .cbTable => cbCost (rest.headD 0)

/-- `CYCLES(instruction, taken)`, from the state the instruction executes in (R240, R285). -/
def cycles (i : Instr) (s : State) : Nat := costOfBytes s.flags (encode i)

end Sys2Proof.Machine
end

