-- ==== Sys2Proof/Machine/Flags.lean ====
section
/-!
DEFINITION. Results and flags of every computing instruction, as the pseudocode of 40_alu8.md to
43_bit.md gives them. Each function answers the result byte or word with the flags after it.
-/
namespace Sys2Proof.Machine

/-- A bit as a number. -/
def bitVal (b : Bool) : Nat := b.toNat

/-- `add8(a, b, c)` (R111). -/
def add8 (a b : Byte) (cin : Bool) : Byte × Flags :=
  let res := BitVec.ofNat 8 (a.toNat + b.toNat + bitVal cin)
  (res,
    { z := res == 0
      n := false
      h := decide (a.toNat % 16 + b.toNat % 16 + bitVal cin > 15)
      c := decide (a.toNat + b.toNat + bitVal cin > 255) })

/-- `sub8(a, b, c)` (R111). -/
def sub8 (a b : Byte) (cin : Bool) : Byte × Flags :=
  let res := BitVec.ofInt 8 ((a.toNat : Int) - b.toNat - bitVal cin)
  (res,
    { z := res == 0
      n := true
      h := decide (a.toNat % 16 < b.toNat % 16 + bitVal cin)
      c := decide (a.toNat < b.toNat + bitVal cin) })

/-- A logic operation's flags: Z from the result, N and C clear, H as forced (R116-R118). -/
def logicFlags (res : Byte) (h : Bool) : Flags := { z := res == 0, n := false, h := h, c := false }

/-- The eight ALU operations (R112-R119): the new A and the flags. CP leaves A. -/
def alu (op : AluOp) (f : Flags) (a v : Byte) : Byte × Flags :=
  match op with
  | .add => add8 a v false
  | .adc => add8 a v f.c
  | .sub => sub8 a v false
  | .sbc => sub8 a v f.c
  | .and => (a &&& v, logicFlags (a &&& v) true)
  | .xor => (a ^^^ v, logicFlags (a ^^^ v) false)
  | .or => (a ||| v, logicFlags (a ||| v) false)
  | .cp => (a, (sub8 a v false).2)

/-- INC on a byte: C is kept (R120, R121). -/
def inc8 (f : Flags) (v : Byte) : Byte × Flags :=
  let res := v + 1
  (res, { z := res == 0, n := false, h := decide (v.toNat % 16 = 15), c := f.c })

/-- DEC on a byte: C is kept (R122, R123). -/
def dec8 (f : Flags) (v : Byte) : Byte × Flags :=
  let res := v - 1
  (res, { z := res == 0, n := true, h := decide (v.toNat % 16 = 0), c := f.c })

/-- DAA (R124): the adjusted A and the flags. The low-nibble test reads A after the high adjustment,
which leaves the low nibble as it was. -/
def daa (f : Flags) (a : Byte) : Byte × Flags :=
  if f.n then
    let a1 := if f.c then a - 0x60 else a
    let a2 := if f.h then a1 - 0x06 else a1
    (a2, { z := a2 == 0, n := f.n, h := false, c := f.c })
  else
    let high := f.c || decide (a.toNat > 0x99)
    let a1 := if high then a + 0x60 else a
    let a2 := if f.h || decide (a1.toNat % 16 > 9) then a1 + 0x06 else a1
    (a2, { z := a2 == 0, n := f.n, h := false, c := high })

/-- ADD HL,rr: H out of bit 11, C out of bit 15, Z kept (R141). -/
def add16 (f : Flags) (a b : Word) : Word × Flags :=
  (BitVec.ofNat 16 (a.toNat + b.toNat),
    { z := f.z
      n := false
      h := decide (a.toNat % 0x1000 + b.toNat % 0x1000 > 0xFFF)
      c := decide (a.toNat + b.toNat > 0xFFFF) })

/-- ADD SP,e8 and LD HL,SP+e8: the sum is signed, H and C are those of the unsigned add of the low
byte and the raw byte, Z and N clear (R144, R145). -/
def addSigned (sp : Word) (e : Byte) : Word × Flags :=
  (sp + sext8 e,
    { z := false
      n := false
      h := decide (sp.toNat % 16 + e.toNat % 16 > 15)
      c := decide (sp.toNat % 256 + e.toNat > 255) })

/-- A bit put at the bottom of a byte. -/
def lowBit (b : Bool) : Byte := (BitVec.ofBool b).setWidth 8

/-- A bit put at the top of a byte. -/
def highBit (b : Bool) : Byte := (BitVec.ofBool b).setWidth 8 <<< 7

/-- The result of a CB rotate or shift, and the bit shifted off (R155-R162). SWAP shifts none off. -/
def rotate (op : RotOp) (cin : Bool) (v : Byte) : Byte × Bool :=
  match op with
  | .rlc => ((v <<< 1) ||| lowBit (v.getLsbD 7), v.getLsbD 7)
  | .rrc => ((v >>> 1) ||| highBit (v.getLsbD 0), v.getLsbD 0)
  | .rl => ((v <<< 1) ||| lowBit cin, v.getLsbD 7)
  | .rr => ((v >>> 1) ||| highBit cin, v.getLsbD 0)
  | .sla => (v <<< 1, v.getLsbD 7)
  | .sra => ((v >>> 1) ||| (v &&& 0x80), v.getLsbD 0)
  | .swap => ((v <<< 4) ||| (v >>> 4), false)
  | .srl => (v >>> 1, v.getLsbD 0)

/-- A CB rotate or shift: Z from the result, N and H clear, C the bit shifted off (R150). -/
def rotateCB (op : RotOp) (f : Flags) (v : Byte) : Byte × Flags :=
  let r := rotate op f.c v
  (r.1, { z := r.1 == 0, n := false, h := false, c := r.2 })

/-- An unprefixed rotate of A: as the CB form, but Z is always cleared (R151-R154). -/
def rotateA (op : RotOp) (f : Flags) (a : Byte) : Byte × Flags :=
  let r := rotate op f.c a
  (r.1, { z := false, n := false, h := false, c := r.2 })

/-- BIT b: Z is the complement of the bit, C is kept (R170). -/
def bitFlags (f : Flags) (b : Fin 8) (v : Byte) : Flags :=
  { z := !v.getLsbD b.val, n := false, h := true, c := f.c }

/-- RES b (R171). -/
def resBit (b : Fin 8) (v : Byte) : Byte := v &&& ~~~(BitVec.twoPow 8 b.val)

/-- SET b (R172). -/
def setBit (b : Fin 8) (v : Byte) : Byte := v ||| BitVec.twoPow 8 b.val

end Sys2Proof.Machine
end

