-- ==== Sys2Proof/Machine/Alu16.lean ====
section
/-!
DEFINITION. 16-bit arithmetic (41_alu16.md). The shared operations first, then one meaning per
opcode.
-/
namespace Sys2Proof.Machine

/-- ADD HL,rr (R141). -/
def addHLOn (p : Pair) (s : State) : Result :=
  let s := s.advance 1
  let r := add16 s.flags s.hl (s.pair p)
  .next ((s.setHL r.1).setFlags r.2)

/-- INC rr: no flag changes (R142). -/
def incPairOn (p : Pair) (s : State) : Result :=
  let s := s.advance 1
  .next (s.setPair p (s.pair p + 1))

/-- DEC rr: no flag changes (R143). -/
def decPairOn (p : Pair) (s : State) : Result :=
  let s := s.advance 1
  .next (s.setPair p (s.pair p - 1))

/-- `ADD HL,BC` (R141). -/
def exec_add_hl_bc (s : State) : Result := addHLOn .bc s

/-- `ADD HL,DE` (R141). -/
def exec_add_hl_de (s : State) : Result := addHLOn .de s

/-- `ADD HL,HL` (R141). -/
def exec_add_hl_hl (s : State) : Result := addHLOn .hl s

/-- `ADD HL,SP` (R141). -/
def exec_add_hl_sp (s : State) : Result := addHLOn .sp s

/-- `INC BC` (R142). -/
def exec_inc_bc (s : State) : Result := incPairOn .bc s

/-- `INC DE` (R142). -/
def exec_inc_de (s : State) : Result := incPairOn .de s

/-- `INC HL` (R142). -/
def exec_inc_hl (s : State) : Result := incPairOn .hl s

/-- `INC SP` (R142). -/
def exec_inc_sp (s : State) : Result := incPairOn .sp s

/-- `DEC BC` (R143). -/
def exec_dec_bc (s : State) : Result := decPairOn .bc s

/-- `DEC DE` (R143). -/
def exec_dec_de (s : State) : Result := decPairOn .de s

/-- `DEC HL` (R143). -/
def exec_dec_hl (s : State) : Result := decPairOn .hl s

/-- `DEC SP` (R143). -/
def exec_dec_sp (s : State) : Result := decPairOn .sp s

/-- `ADD SP,e8` (R144). -/
def exec_add_sp_e8 (e : Byte) (s : State) : Result :=
  let s := s.advance 2
  let r := addSigned s.sp e
  .next ((s.setSp r.1).setFlags r.2)

/-- `LD HL,SP+e8` (R145). -/
def exec_ld_hl_sp_e8 (e : Byte) (s : State) : Result :=
  let s := s.advance 2
  let r := addSigned s.sp e
  .next ((s.setHL r.1).setFlags r.2)

end Sys2Proof.Machine
end

