-- ==== Sys2Proof/Machine/Alu8.lean ====
section
/-!
DEFINITION. 8-bit arithmetic and logic (40_alu8.md). The shared operations first, then one meaning
per opcode.
-/
namespace Sys2Proof.Machine

/-- An ALU operation on A and a source operand (R110, R112-R119). -/
def aluOn (op : AluOp) (src : Src) (s : State) : Result :=
  let s := s.advance (srcLength src)
  let r := alu op s.flags s.regs.a (s.srcValue src)
  .next ((s.setA r.1).setFlags r.2)

/-- INC on an operand: for (HL) one read, then one write (R120, R121). -/
def incOn (o : Operand8) (s : State) : Result :=
  let s := s.advance 1
  let r := inc8 s.flags (s.readOp o)
  .next ((s.writeOp o r.1).setFlags r.2)

/-- DEC on an operand: for (HL) one read, then one write (R122, R123). -/
def decOn (o : Operand8) (s : State) : Result :=
  let s := s.advance 1
  let r := dec8 s.flags (s.readOp o)
  .next ((s.writeOp o r.1).setFlags r.2)

/-! ADD -/

/-- `ADD A,B` (R112). -/
def exec_add_a_b (s : State) : Result := aluOn .add (.op (.reg .b)) s

/-- `ADD A,C` (R112). -/
def exec_add_a_c (s : State) : Result := aluOn .add (.op (.reg .c)) s

/-- `ADD A,D` (R112). -/
def exec_add_a_d (s : State) : Result := aluOn .add (.op (.reg .d)) s

/-- `ADD A,E` (R112). -/
def exec_add_a_e (s : State) : Result := aluOn .add (.op (.reg .e)) s

/-- `ADD A,H` (R112). -/
def exec_add_a_h (s : State) : Result := aluOn .add (.op (.reg .h)) s

/-- `ADD A,L` (R112). -/
def exec_add_a_l (s : State) : Result := aluOn .add (.op (.reg .l)) s

/-- `ADD A,(HL)` (R112). -/
def exec_add_a_mHL (s : State) : Result := aluOn .add (.op .memHL) s

/-- `ADD A,A` (R112). -/
def exec_add_a_a (s : State) : Result := aluOn .add (.op (.reg .a)) s

/-- `ADD A,n8` (R112). -/
def exec_add_a_n8 (n : Byte) (s : State) : Result := aluOn .add (.imm n) s

/-! ADC -/

/-- `ADC A,B` (R113). -/
def exec_adc_a_b (s : State) : Result := aluOn .adc (.op (.reg .b)) s

/-- `ADC A,C` (R113). -/
def exec_adc_a_c (s : State) : Result := aluOn .adc (.op (.reg .c)) s

/-- `ADC A,D` (R113). -/
def exec_adc_a_d (s : State) : Result := aluOn .adc (.op (.reg .d)) s

/-- `ADC A,E` (R113). -/
def exec_adc_a_e (s : State) : Result := aluOn .adc (.op (.reg .e)) s

/-- `ADC A,H` (R113). -/
def exec_adc_a_h (s : State) : Result := aluOn .adc (.op (.reg .h)) s

/-- `ADC A,L` (R113). -/
def exec_adc_a_l (s : State) : Result := aluOn .adc (.op (.reg .l)) s

/-- `ADC A,(HL)` (R113). -/
def exec_adc_a_mHL (s : State) : Result := aluOn .adc (.op .memHL) s

/-- `ADC A,A` (R113). -/
def exec_adc_a_a (s : State) : Result := aluOn .adc (.op (.reg .a)) s

/-- `ADC A,n8` (R113). -/
def exec_adc_a_n8 (n : Byte) (s : State) : Result := aluOn .adc (.imm n) s

/-! SUB -/

/-- `SUB B` (R114). -/
def exec_sub_b (s : State) : Result := aluOn .sub (.op (.reg .b)) s

/-- `SUB C` (R114). -/
def exec_sub_c (s : State) : Result := aluOn .sub (.op (.reg .c)) s

/-- `SUB D` (R114). -/
def exec_sub_d (s : State) : Result := aluOn .sub (.op (.reg .d)) s

/-- `SUB E` (R114). -/
def exec_sub_e (s : State) : Result := aluOn .sub (.op (.reg .e)) s

/-- `SUB H` (R114). -/
def exec_sub_h (s : State) : Result := aluOn .sub (.op (.reg .h)) s

/-- `SUB L` (R114). -/
def exec_sub_l (s : State) : Result := aluOn .sub (.op (.reg .l)) s

/-- `SUB (HL)` (R114). -/
def exec_sub_mHL (s : State) : Result := aluOn .sub (.op .memHL) s

/-- `SUB A` (R114). -/
def exec_sub_a (s : State) : Result := aluOn .sub (.op (.reg .a)) s

/-- `SUB n8` (R114). -/
def exec_sub_n8 (n : Byte) (s : State) : Result := aluOn .sub (.imm n) s

/-! SBC -/

/-- `SBC A,B` (R115). -/
def exec_sbc_a_b (s : State) : Result := aluOn .sbc (.op (.reg .b)) s

/-- `SBC A,C` (R115). -/
def exec_sbc_a_c (s : State) : Result := aluOn .sbc (.op (.reg .c)) s

/-- `SBC A,D` (R115). -/
def exec_sbc_a_d (s : State) : Result := aluOn .sbc (.op (.reg .d)) s

/-- `SBC A,E` (R115). -/
def exec_sbc_a_e (s : State) : Result := aluOn .sbc (.op (.reg .e)) s

/-- `SBC A,H` (R115). -/
def exec_sbc_a_h (s : State) : Result := aluOn .sbc (.op (.reg .h)) s

/-- `SBC A,L` (R115). -/
def exec_sbc_a_l (s : State) : Result := aluOn .sbc (.op (.reg .l)) s

/-- `SBC A,(HL)` (R115). -/
def exec_sbc_a_mHL (s : State) : Result := aluOn .sbc (.op .memHL) s

/-- `SBC A,A` (R115). -/
def exec_sbc_a_a (s : State) : Result := aluOn .sbc (.op (.reg .a)) s

/-- `SBC A,n8` (R115). -/
def exec_sbc_a_n8 (n : Byte) (s : State) : Result := aluOn .sbc (.imm n) s

/-! AND -/

/-- `AND B` (R116). -/
def exec_and_b (s : State) : Result := aluOn .and (.op (.reg .b)) s

/-- `AND C` (R116). -/
def exec_and_c (s : State) : Result := aluOn .and (.op (.reg .c)) s

/-- `AND D` (R116). -/
def exec_and_d (s : State) : Result := aluOn .and (.op (.reg .d)) s

/-- `AND E` (R116). -/
def exec_and_e (s : State) : Result := aluOn .and (.op (.reg .e)) s

/-- `AND H` (R116). -/
def exec_and_h (s : State) : Result := aluOn .and (.op (.reg .h)) s

/-- `AND L` (R116). -/
def exec_and_l (s : State) : Result := aluOn .and (.op (.reg .l)) s

/-- `AND (HL)` (R116). -/
def exec_and_mHL (s : State) : Result := aluOn .and (.op .memHL) s

/-- `AND A` (R116). -/
def exec_and_a (s : State) : Result := aluOn .and (.op (.reg .a)) s

/-- `AND n8` (R116). -/
def exec_and_n8 (n : Byte) (s : State) : Result := aluOn .and (.imm n) s

/-! XOR -/

/-- `XOR B` (R117). -/
def exec_xor_b (s : State) : Result := aluOn .xor (.op (.reg .b)) s

/-- `XOR C` (R117). -/
def exec_xor_c (s : State) : Result := aluOn .xor (.op (.reg .c)) s

/-- `XOR D` (R117). -/
def exec_xor_d (s : State) : Result := aluOn .xor (.op (.reg .d)) s

/-- `XOR E` (R117). -/
def exec_xor_e (s : State) : Result := aluOn .xor (.op (.reg .e)) s

/-- `XOR H` (R117). -/
def exec_xor_h (s : State) : Result := aluOn .xor (.op (.reg .h)) s

/-- `XOR L` (R117). -/
def exec_xor_l (s : State) : Result := aluOn .xor (.op (.reg .l)) s

/-- `XOR (HL)` (R117). -/
def exec_xor_mHL (s : State) : Result := aluOn .xor (.op .memHL) s

/-- `XOR A` (R117). -/
def exec_xor_a (s : State) : Result := aluOn .xor (.op (.reg .a)) s

/-- `XOR n8` (R117). -/
def exec_xor_n8 (n : Byte) (s : State) : Result := aluOn .xor (.imm n) s

/-! OR -/

/-- `OR B` (R118). -/
def exec_or_b (s : State) : Result := aluOn .or (.op (.reg .b)) s

/-- `OR C` (R118). -/
def exec_or_c (s : State) : Result := aluOn .or (.op (.reg .c)) s

/-- `OR D` (R118). -/
def exec_or_d (s : State) : Result := aluOn .or (.op (.reg .d)) s

/-- `OR E` (R118). -/
def exec_or_e (s : State) : Result := aluOn .or (.op (.reg .e)) s

/-- `OR H` (R118). -/
def exec_or_h (s : State) : Result := aluOn .or (.op (.reg .h)) s

/-- `OR L` (R118). -/
def exec_or_l (s : State) : Result := aluOn .or (.op (.reg .l)) s

/-- `OR (HL)` (R118). -/
def exec_or_mHL (s : State) : Result := aluOn .or (.op .memHL) s

/-- `OR A` (R118). -/
def exec_or_a (s : State) : Result := aluOn .or (.op (.reg .a)) s

/-- `OR n8` (R118). -/
def exec_or_n8 (n : Byte) (s : State) : Result := aluOn .or (.imm n) s

/-! CP -/

/-- `CP B` (R119). -/
def exec_cp_b (s : State) : Result := aluOn .cp (.op (.reg .b)) s

/-- `CP C` (R119). -/
def exec_cp_c (s : State) : Result := aluOn .cp (.op (.reg .c)) s

/-- `CP D` (R119). -/
def exec_cp_d (s : State) : Result := aluOn .cp (.op (.reg .d)) s

/-- `CP E` (R119). -/
def exec_cp_e (s : State) : Result := aluOn .cp (.op (.reg .e)) s

/-- `CP H` (R119). -/
def exec_cp_h (s : State) : Result := aluOn .cp (.op (.reg .h)) s

/-- `CP L` (R119). -/
def exec_cp_l (s : State) : Result := aluOn .cp (.op (.reg .l)) s

/-- `CP (HL)` (R119). -/
def exec_cp_mHL (s : State) : Result := aluOn .cp (.op .memHL) s

/-- `CP A` (R119). -/
def exec_cp_a (s : State) : Result := aluOn .cp (.op (.reg .a)) s

/-- `CP n8` (R119). -/
def exec_cp_n8 (n : Byte) (s : State) : Result := aluOn .cp (.imm n) s

/-! INC and DEC -/

/-- `INC B` (R120). -/
def exec_inc_b (s : State) : Result := incOn (.reg .b) s

/-- `INC C` (R120). -/
def exec_inc_c (s : State) : Result := incOn (.reg .c) s

/-- `INC D` (R120). -/
def exec_inc_d (s : State) : Result := incOn (.reg .d) s

/-- `INC E` (R120). -/
def exec_inc_e (s : State) : Result := incOn (.reg .e) s

/-- `INC H` (R120). -/
def exec_inc_h (s : State) : Result := incOn (.reg .h) s

/-- `INC L` (R120). -/
def exec_inc_l (s : State) : Result := incOn (.reg .l) s

/-- `INC (HL)` (R121). -/
def exec_inc_mHL (s : State) : Result := incOn .memHL s

/-- `INC A` (R120). -/
def exec_inc_a (s : State) : Result := incOn (.reg .a) s

/-- `DEC B` (R122). -/
def exec_dec_b (s : State) : Result := decOn (.reg .b) s

/-- `DEC C` (R122). -/
def exec_dec_c (s : State) : Result := decOn (.reg .c) s

/-- `DEC D` (R122). -/
def exec_dec_d (s : State) : Result := decOn (.reg .d) s

/-- `DEC E` (R122). -/
def exec_dec_e (s : State) : Result := decOn (.reg .e) s

/-- `DEC H` (R122). -/
def exec_dec_h (s : State) : Result := decOn (.reg .h) s

/-- `DEC L` (R122). -/
def exec_dec_l (s : State) : Result := decOn (.reg .l) s

/-- `DEC (HL)` (R123). -/
def exec_dec_mHL (s : State) : Result := decOn .memHL s

/-- `DEC A` (R122). -/
def exec_dec_a (s : State) : Result := decOn (.reg .a) s

/-! DAA, CPL, SCF, CCF -/

/-- `DAA` (R124). -/
def exec_daa (s : State) : Result :=
  let s := s.advance 1
  let r := daa s.flags s.regs.a
  .next ((s.setA r.1).setFlags r.2)

/-- `CPL` (R125). -/
def exec_cpl (s : State) : Result :=
  let s := s.advance 1
  .next ((s.setA (~~~s.regs.a)).setFlags { s.flags with n := true, h := true })

/-- `SCF` (R126). -/
def exec_scf (s : State) : Result :=
  let s := s.advance 1
  .next (s.setFlags { s.flags with n := false, h := false, c := true })

/-- `CCF` (R127). -/
def exec_ccf (s : State) : Result :=
  let s := s.advance 1
  .next (s.setFlags { s.flags with n := false, h := false, c := !s.flags.c })

end Sys2Proof.Machine
end

