-- ==== Sys2Proof/Machine/Bit.lean ====
section
/-!
DEFINITION. Single-bit operations (43_bit.md). The shared operations first, then one meaning per
opcode.
-/
namespace Sys2Proof.Machine

/-- BIT b: the operand is read, not written (R170). -/
def bitOn (b : Fin 8) (o : Operand8) (s : State) : Result :=
  let s := s.advance 2
  .next (s.setFlags (bitFlags s.flags b (s.readOp o)))

/-- RES b: for (HL) one read, then one write (R171). -/
def resOn (b : Fin 8) (o : Operand8) (s : State) : Result :=
  let s := s.advance 2
  .next (s.writeOp o (resBit b (s.readOp o)))

/-- SET b: for (HL) one read, then one write (R172). -/
def setOn (b : Fin 8) (o : Operand8) (s : State) : Result :=
  let s := s.advance 2
  .next (s.writeOp o (setBit b (s.readOp o)))

/-! BIT -/

/-- `BIT 0,B` (R170). -/
def exec_bit_0_b (s : State) : Result := bitOn 0 (.reg .b) s

/-- `BIT 0,C` (R170). -/
def exec_bit_0_c (s : State) : Result := bitOn 0 (.reg .c) s

/-- `BIT 0,D` (R170). -/
def exec_bit_0_d (s : State) : Result := bitOn 0 (.reg .d) s

/-- `BIT 0,E` (R170). -/
def exec_bit_0_e (s : State) : Result := bitOn 0 (.reg .e) s

/-- `BIT 0,H` (R170). -/
def exec_bit_0_h (s : State) : Result := bitOn 0 (.reg .h) s

/-- `BIT 0,L` (R170). -/
def exec_bit_0_l (s : State) : Result := bitOn 0 (.reg .l) s

/-- `BIT 0,(HL)` (R170). -/
def exec_bit_0_mHL (s : State) : Result := bitOn 0 .memHL s

/-- `BIT 0,A` (R170). -/
def exec_bit_0_a (s : State) : Result := bitOn 0 (.reg .a) s

/-- `BIT 1,B` (R170). -/
def exec_bit_1_b (s : State) : Result := bitOn 1 (.reg .b) s

/-- `BIT 1,C` (R170). -/
def exec_bit_1_c (s : State) : Result := bitOn 1 (.reg .c) s

/-- `BIT 1,D` (R170). -/
def exec_bit_1_d (s : State) : Result := bitOn 1 (.reg .d) s

/-- `BIT 1,E` (R170). -/
def exec_bit_1_e (s : State) : Result := bitOn 1 (.reg .e) s

/-- `BIT 1,H` (R170). -/
def exec_bit_1_h (s : State) : Result := bitOn 1 (.reg .h) s

/-- `BIT 1,L` (R170). -/
def exec_bit_1_l (s : State) : Result := bitOn 1 (.reg .l) s

/-- `BIT 1,(HL)` (R170). -/
def exec_bit_1_mHL (s : State) : Result := bitOn 1 .memHL s

/-- `BIT 1,A` (R170). -/
def exec_bit_1_a (s : State) : Result := bitOn 1 (.reg .a) s

/-- `BIT 2,B` (R170). -/
def exec_bit_2_b (s : State) : Result := bitOn 2 (.reg .b) s

/-- `BIT 2,C` (R170). -/
def exec_bit_2_c (s : State) : Result := bitOn 2 (.reg .c) s

/-- `BIT 2,D` (R170). -/
def exec_bit_2_d (s : State) : Result := bitOn 2 (.reg .d) s

/-- `BIT 2,E` (R170). -/
def exec_bit_2_e (s : State) : Result := bitOn 2 (.reg .e) s

/-- `BIT 2,H` (R170). -/
def exec_bit_2_h (s : State) : Result := bitOn 2 (.reg .h) s

/-- `BIT 2,L` (R170). -/
def exec_bit_2_l (s : State) : Result := bitOn 2 (.reg .l) s

/-- `BIT 2,(HL)` (R170). -/
def exec_bit_2_mHL (s : State) : Result := bitOn 2 .memHL s

/-- `BIT 2,A` (R170). -/
def exec_bit_2_a (s : State) : Result := bitOn 2 (.reg .a) s

/-- `BIT 3,B` (R170). -/
def exec_bit_3_b (s : State) : Result := bitOn 3 (.reg .b) s

/-- `BIT 3,C` (R170). -/
def exec_bit_3_c (s : State) : Result := bitOn 3 (.reg .c) s

/-- `BIT 3,D` (R170). -/
def exec_bit_3_d (s : State) : Result := bitOn 3 (.reg .d) s

/-- `BIT 3,E` (R170). -/
def exec_bit_3_e (s : State) : Result := bitOn 3 (.reg .e) s

/-- `BIT 3,H` (R170). -/
def exec_bit_3_h (s : State) : Result := bitOn 3 (.reg .h) s

/-- `BIT 3,L` (R170). -/
def exec_bit_3_l (s : State) : Result := bitOn 3 (.reg .l) s

/-- `BIT 3,(HL)` (R170). -/
def exec_bit_3_mHL (s : State) : Result := bitOn 3 .memHL s

/-- `BIT 3,A` (R170). -/
def exec_bit_3_a (s : State) : Result := bitOn 3 (.reg .a) s

/-- `BIT 4,B` (R170). -/
def exec_bit_4_b (s : State) : Result := bitOn 4 (.reg .b) s

/-- `BIT 4,C` (R170). -/
def exec_bit_4_c (s : State) : Result := bitOn 4 (.reg .c) s

/-- `BIT 4,D` (R170). -/
def exec_bit_4_d (s : State) : Result := bitOn 4 (.reg .d) s

/-- `BIT 4,E` (R170). -/
def exec_bit_4_e (s : State) : Result := bitOn 4 (.reg .e) s

/-- `BIT 4,H` (R170). -/
def exec_bit_4_h (s : State) : Result := bitOn 4 (.reg .h) s

/-- `BIT 4,L` (R170). -/
def exec_bit_4_l (s : State) : Result := bitOn 4 (.reg .l) s

/-- `BIT 4,(HL)` (R170). -/
def exec_bit_4_mHL (s : State) : Result := bitOn 4 .memHL s

/-- `BIT 4,A` (R170). -/
def exec_bit_4_a (s : State) : Result := bitOn 4 (.reg .a) s

/-- `BIT 5,B` (R170). -/
def exec_bit_5_b (s : State) : Result := bitOn 5 (.reg .b) s

/-- `BIT 5,C` (R170). -/
def exec_bit_5_c (s : State) : Result := bitOn 5 (.reg .c) s

/-- `BIT 5,D` (R170). -/
def exec_bit_5_d (s : State) : Result := bitOn 5 (.reg .d) s

/-- `BIT 5,E` (R170). -/
def exec_bit_5_e (s : State) : Result := bitOn 5 (.reg .e) s

/-- `BIT 5,H` (R170). -/
def exec_bit_5_h (s : State) : Result := bitOn 5 (.reg .h) s

/-- `BIT 5,L` (R170). -/
def exec_bit_5_l (s : State) : Result := bitOn 5 (.reg .l) s

/-- `BIT 5,(HL)` (R170). -/
def exec_bit_5_mHL (s : State) : Result := bitOn 5 .memHL s

/-- `BIT 5,A` (R170). -/
def exec_bit_5_a (s : State) : Result := bitOn 5 (.reg .a) s

/-- `BIT 6,B` (R170). -/
def exec_bit_6_b (s : State) : Result := bitOn 6 (.reg .b) s

/-- `BIT 6,C` (R170). -/
def exec_bit_6_c (s : State) : Result := bitOn 6 (.reg .c) s

/-- `BIT 6,D` (R170). -/
def exec_bit_6_d (s : State) : Result := bitOn 6 (.reg .d) s

/-- `BIT 6,E` (R170). -/
def exec_bit_6_e (s : State) : Result := bitOn 6 (.reg .e) s

/-- `BIT 6,H` (R170). -/
def exec_bit_6_h (s : State) : Result := bitOn 6 (.reg .h) s

/-- `BIT 6,L` (R170). -/
def exec_bit_6_l (s : State) : Result := bitOn 6 (.reg .l) s

/-- `BIT 6,(HL)` (R170). -/
def exec_bit_6_mHL (s : State) : Result := bitOn 6 .memHL s

/-- `BIT 6,A` (R170). -/
def exec_bit_6_a (s : State) : Result := bitOn 6 (.reg .a) s

/-- `BIT 7,B` (R170). -/
def exec_bit_7_b (s : State) : Result := bitOn 7 (.reg .b) s

/-- `BIT 7,C` (R170). -/
def exec_bit_7_c (s : State) : Result := bitOn 7 (.reg .c) s

/-- `BIT 7,D` (R170). -/
def exec_bit_7_d (s : State) : Result := bitOn 7 (.reg .d) s

/-- `BIT 7,E` (R170). -/
def exec_bit_7_e (s : State) : Result := bitOn 7 (.reg .e) s

/-- `BIT 7,H` (R170). -/
def exec_bit_7_h (s : State) : Result := bitOn 7 (.reg .h) s

/-- `BIT 7,L` (R170). -/
def exec_bit_7_l (s : State) : Result := bitOn 7 (.reg .l) s

/-- `BIT 7,(HL)` (R170). -/
def exec_bit_7_mHL (s : State) : Result := bitOn 7 .memHL s

/-- `BIT 7,A` (R170). -/
def exec_bit_7_a (s : State) : Result := bitOn 7 (.reg .a) s

/-! RES -/

/-- `RES 0,B` (R171). -/
def exec_res_0_b (s : State) : Result := resOn 0 (.reg .b) s

/-- `RES 0,C` (R171). -/
def exec_res_0_c (s : State) : Result := resOn 0 (.reg .c) s

/-- `RES 0,D` (R171). -/
def exec_res_0_d (s : State) : Result := resOn 0 (.reg .d) s

/-- `RES 0,E` (R171). -/
def exec_res_0_e (s : State) : Result := resOn 0 (.reg .e) s

/-- `RES 0,H` (R171). -/
def exec_res_0_h (s : State) : Result := resOn 0 (.reg .h) s

/-- `RES 0,L` (R171). -/
def exec_res_0_l (s : State) : Result := resOn 0 (.reg .l) s

/-- `RES 0,(HL)` (R171). -/
def exec_res_0_mHL (s : State) : Result := resOn 0 .memHL s

/-- `RES 0,A` (R171). -/
def exec_res_0_a (s : State) : Result := resOn 0 (.reg .a) s

/-- `RES 1,B` (R171). -/
def exec_res_1_b (s : State) : Result := resOn 1 (.reg .b) s

/-- `RES 1,C` (R171). -/
def exec_res_1_c (s : State) : Result := resOn 1 (.reg .c) s

/-- `RES 1,D` (R171). -/
def exec_res_1_d (s : State) : Result := resOn 1 (.reg .d) s

/-- `RES 1,E` (R171). -/
def exec_res_1_e (s : State) : Result := resOn 1 (.reg .e) s

/-- `RES 1,H` (R171). -/
def exec_res_1_h (s : State) : Result := resOn 1 (.reg .h) s

/-- `RES 1,L` (R171). -/
def exec_res_1_l (s : State) : Result := resOn 1 (.reg .l) s

/-- `RES 1,(HL)` (R171). -/
def exec_res_1_mHL (s : State) : Result := resOn 1 .memHL s

/-- `RES 1,A` (R171). -/
def exec_res_1_a (s : State) : Result := resOn 1 (.reg .a) s

/-- `RES 2,B` (R171). -/
def exec_res_2_b (s : State) : Result := resOn 2 (.reg .b) s

/-- `RES 2,C` (R171). -/
def exec_res_2_c (s : State) : Result := resOn 2 (.reg .c) s

/-- `RES 2,D` (R171). -/
def exec_res_2_d (s : State) : Result := resOn 2 (.reg .d) s

/-- `RES 2,E` (R171). -/
def exec_res_2_e (s : State) : Result := resOn 2 (.reg .e) s

/-- `RES 2,H` (R171). -/
def exec_res_2_h (s : State) : Result := resOn 2 (.reg .h) s

/-- `RES 2,L` (R171). -/
def exec_res_2_l (s : State) : Result := resOn 2 (.reg .l) s

/-- `RES 2,(HL)` (R171). -/
def exec_res_2_mHL (s : State) : Result := resOn 2 .memHL s

/-- `RES 2,A` (R171). -/
def exec_res_2_a (s : State) : Result := resOn 2 (.reg .a) s

/-- `RES 3,B` (R171). -/
def exec_res_3_b (s : State) : Result := resOn 3 (.reg .b) s

/-- `RES 3,C` (R171). -/
def exec_res_3_c (s : State) : Result := resOn 3 (.reg .c) s

/-- `RES 3,D` (R171). -/
def exec_res_3_d (s : State) : Result := resOn 3 (.reg .d) s

/-- `RES 3,E` (R171). -/
def exec_res_3_e (s : State) : Result := resOn 3 (.reg .e) s

/-- `RES 3,H` (R171). -/
def exec_res_3_h (s : State) : Result := resOn 3 (.reg .h) s

/-- `RES 3,L` (R171). -/
def exec_res_3_l (s : State) : Result := resOn 3 (.reg .l) s

/-- `RES 3,(HL)` (R171). -/
def exec_res_3_mHL (s : State) : Result := resOn 3 .memHL s

/-- `RES 3,A` (R171). -/
def exec_res_3_a (s : State) : Result := resOn 3 (.reg .a) s

/-- `RES 4,B` (R171). -/
def exec_res_4_b (s : State) : Result := resOn 4 (.reg .b) s

/-- `RES 4,C` (R171). -/
def exec_res_4_c (s : State) : Result := resOn 4 (.reg .c) s

/-- `RES 4,D` (R171). -/
def exec_res_4_d (s : State) : Result := resOn 4 (.reg .d) s

/-- `RES 4,E` (R171). -/
def exec_res_4_e (s : State) : Result := resOn 4 (.reg .e) s

/-- `RES 4,H` (R171). -/
def exec_res_4_h (s : State) : Result := resOn 4 (.reg .h) s

/-- `RES 4,L` (R171). -/
def exec_res_4_l (s : State) : Result := resOn 4 (.reg .l) s

/-- `RES 4,(HL)` (R171). -/
def exec_res_4_mHL (s : State) : Result := resOn 4 .memHL s

/-- `RES 4,A` (R171). -/
def exec_res_4_a (s : State) : Result := resOn 4 (.reg .a) s

/-- `RES 5,B` (R171). -/
def exec_res_5_b (s : State) : Result := resOn 5 (.reg .b) s

/-- `RES 5,C` (R171). -/
def exec_res_5_c (s : State) : Result := resOn 5 (.reg .c) s

/-- `RES 5,D` (R171). -/
def exec_res_5_d (s : State) : Result := resOn 5 (.reg .d) s

/-- `RES 5,E` (R171). -/
def exec_res_5_e (s : State) : Result := resOn 5 (.reg .e) s

/-- `RES 5,H` (R171). -/
def exec_res_5_h (s : State) : Result := resOn 5 (.reg .h) s

/-- `RES 5,L` (R171). -/
def exec_res_5_l (s : State) : Result := resOn 5 (.reg .l) s

/-- `RES 5,(HL)` (R171). -/
def exec_res_5_mHL (s : State) : Result := resOn 5 .memHL s

/-- `RES 5,A` (R171). -/
def exec_res_5_a (s : State) : Result := resOn 5 (.reg .a) s

/-- `RES 6,B` (R171). -/
def exec_res_6_b (s : State) : Result := resOn 6 (.reg .b) s

/-- `RES 6,C` (R171). -/
def exec_res_6_c (s : State) : Result := resOn 6 (.reg .c) s

/-- `RES 6,D` (R171). -/
def exec_res_6_d (s : State) : Result := resOn 6 (.reg .d) s

/-- `RES 6,E` (R171). -/
def exec_res_6_e (s : State) : Result := resOn 6 (.reg .e) s

/-- `RES 6,H` (R171). -/
def exec_res_6_h (s : State) : Result := resOn 6 (.reg .h) s

/-- `RES 6,L` (R171). -/
def exec_res_6_l (s : State) : Result := resOn 6 (.reg .l) s

/-- `RES 6,(HL)` (R171). -/
def exec_res_6_mHL (s : State) : Result := resOn 6 .memHL s

/-- `RES 6,A` (R171). -/
def exec_res_6_a (s : State) : Result := resOn 6 (.reg .a) s

/-- `RES 7,B` (R171). -/
def exec_res_7_b (s : State) : Result := resOn 7 (.reg .b) s

/-- `RES 7,C` (R171). -/
def exec_res_7_c (s : State) : Result := resOn 7 (.reg .c) s

/-- `RES 7,D` (R171). -/
def exec_res_7_d (s : State) : Result := resOn 7 (.reg .d) s

/-- `RES 7,E` (R171). -/
def exec_res_7_e (s : State) : Result := resOn 7 (.reg .e) s

/-- `RES 7,H` (R171). -/
def exec_res_7_h (s : State) : Result := resOn 7 (.reg .h) s

/-- `RES 7,L` (R171). -/
def exec_res_7_l (s : State) : Result := resOn 7 (.reg .l) s

/-- `RES 7,(HL)` (R171). -/
def exec_res_7_mHL (s : State) : Result := resOn 7 .memHL s

/-- `RES 7,A` (R171). -/
def exec_res_7_a (s : State) : Result := resOn 7 (.reg .a) s

/-! SET -/

/-- `SET 0,B` (R172). -/
def exec_set_0_b (s : State) : Result := setOn 0 (.reg .b) s

/-- `SET 0,C` (R172). -/
def exec_set_0_c (s : State) : Result := setOn 0 (.reg .c) s

/-- `SET 0,D` (R172). -/
def exec_set_0_d (s : State) : Result := setOn 0 (.reg .d) s

/-- `SET 0,E` (R172). -/
def exec_set_0_e (s : State) : Result := setOn 0 (.reg .e) s

/-- `SET 0,H` (R172). -/
def exec_set_0_h (s : State) : Result := setOn 0 (.reg .h) s

/-- `SET 0,L` (R172). -/
def exec_set_0_l (s : State) : Result := setOn 0 (.reg .l) s

/-- `SET 0,(HL)` (R172). -/
def exec_set_0_mHL (s : State) : Result := setOn 0 .memHL s

/-- `SET 0,A` (R172). -/
def exec_set_0_a (s : State) : Result := setOn 0 (.reg .a) s

/-- `SET 1,B` (R172). -/
def exec_set_1_b (s : State) : Result := setOn 1 (.reg .b) s

/-- `SET 1,C` (R172). -/
def exec_set_1_c (s : State) : Result := setOn 1 (.reg .c) s

/-- `SET 1,D` (R172). -/
def exec_set_1_d (s : State) : Result := setOn 1 (.reg .d) s

/-- `SET 1,E` (R172). -/
def exec_set_1_e (s : State) : Result := setOn 1 (.reg .e) s

/-- `SET 1,H` (R172). -/
def exec_set_1_h (s : State) : Result := setOn 1 (.reg .h) s

/-- `SET 1,L` (R172). -/
def exec_set_1_l (s : State) : Result := setOn 1 (.reg .l) s

/-- `SET 1,(HL)` (R172). -/
def exec_set_1_mHL (s : State) : Result := setOn 1 .memHL s

/-- `SET 1,A` (R172). -/
def exec_set_1_a (s : State) : Result := setOn 1 (.reg .a) s

/-- `SET 2,B` (R172). -/
def exec_set_2_b (s : State) : Result := setOn 2 (.reg .b) s

/-- `SET 2,C` (R172). -/
def exec_set_2_c (s : State) : Result := setOn 2 (.reg .c) s

/-- `SET 2,D` (R172). -/
def exec_set_2_d (s : State) : Result := setOn 2 (.reg .d) s

/-- `SET 2,E` (R172). -/
def exec_set_2_e (s : State) : Result := setOn 2 (.reg .e) s

/-- `SET 2,H` (R172). -/
def exec_set_2_h (s : State) : Result := setOn 2 (.reg .h) s

/-- `SET 2,L` (R172). -/
def exec_set_2_l (s : State) : Result := setOn 2 (.reg .l) s

/-- `SET 2,(HL)` (R172). -/
def exec_set_2_mHL (s : State) : Result := setOn 2 .memHL s

/-- `SET 2,A` (R172). -/
def exec_set_2_a (s : State) : Result := setOn 2 (.reg .a) s

/-- `SET 3,B` (R172). -/
def exec_set_3_b (s : State) : Result := setOn 3 (.reg .b) s

/-- `SET 3,C` (R172). -/
def exec_set_3_c (s : State) : Result := setOn 3 (.reg .c) s

/-- `SET 3,D` (R172). -/
def exec_set_3_d (s : State) : Result := setOn 3 (.reg .d) s

/-- `SET 3,E` (R172). -/
def exec_set_3_e (s : State) : Result := setOn 3 (.reg .e) s

/-- `SET 3,H` (R172). -/
def exec_set_3_h (s : State) : Result := setOn 3 (.reg .h) s

/-- `SET 3,L` (R172). -/
def exec_set_3_l (s : State) : Result := setOn 3 (.reg .l) s

/-- `SET 3,(HL)` (R172). -/
def exec_set_3_mHL (s : State) : Result := setOn 3 .memHL s

/-- `SET 3,A` (R172). -/
def exec_set_3_a (s : State) : Result := setOn 3 (.reg .a) s

/-- `SET 4,B` (R172). -/
def exec_set_4_b (s : State) : Result := setOn 4 (.reg .b) s

/-- `SET 4,C` (R172). -/
def exec_set_4_c (s : State) : Result := setOn 4 (.reg .c) s

/-- `SET 4,D` (R172). -/
def exec_set_4_d (s : State) : Result := setOn 4 (.reg .d) s

/-- `SET 4,E` (R172). -/
def exec_set_4_e (s : State) : Result := setOn 4 (.reg .e) s

/-- `SET 4,H` (R172). -/
def exec_set_4_h (s : State) : Result := setOn 4 (.reg .h) s

/-- `SET 4,L` (R172). -/
def exec_set_4_l (s : State) : Result := setOn 4 (.reg .l) s

/-- `SET 4,(HL)` (R172). -/
def exec_set_4_mHL (s : State) : Result := setOn 4 .memHL s

/-- `SET 4,A` (R172). -/
def exec_set_4_a (s : State) : Result := setOn 4 (.reg .a) s

/-- `SET 5,B` (R172). -/
def exec_set_5_b (s : State) : Result := setOn 5 (.reg .b) s

/-- `SET 5,C` (R172). -/
def exec_set_5_c (s : State) : Result := setOn 5 (.reg .c) s

/-- `SET 5,D` (R172). -/
def exec_set_5_d (s : State) : Result := setOn 5 (.reg .d) s

/-- `SET 5,E` (R172). -/
def exec_set_5_e (s : State) : Result := setOn 5 (.reg .e) s

/-- `SET 5,H` (R172). -/
def exec_set_5_h (s : State) : Result := setOn 5 (.reg .h) s

/-- `SET 5,L` (R172). -/
def exec_set_5_l (s : State) : Result := setOn 5 (.reg .l) s

/-- `SET 5,(HL)` (R172). -/
def exec_set_5_mHL (s : State) : Result := setOn 5 .memHL s

/-- `SET 5,A` (R172). -/
def exec_set_5_a (s : State) : Result := setOn 5 (.reg .a) s

/-- `SET 6,B` (R172). -/
def exec_set_6_b (s : State) : Result := setOn 6 (.reg .b) s

/-- `SET 6,C` (R172). -/
def exec_set_6_c (s : State) : Result := setOn 6 (.reg .c) s

/-- `SET 6,D` (R172). -/
def exec_set_6_d (s : State) : Result := setOn 6 (.reg .d) s

/-- `SET 6,E` (R172). -/
def exec_set_6_e (s : State) : Result := setOn 6 (.reg .e) s

/-- `SET 6,H` (R172). -/
def exec_set_6_h (s : State) : Result := setOn 6 (.reg .h) s

/-- `SET 6,L` (R172). -/
def exec_set_6_l (s : State) : Result := setOn 6 (.reg .l) s

/-- `SET 6,(HL)` (R172). -/
def exec_set_6_mHL (s : State) : Result := setOn 6 .memHL s

/-- `SET 6,A` (R172). -/
def exec_set_6_a (s : State) : Result := setOn 6 (.reg .a) s

/-- `SET 7,B` (R172). -/
def exec_set_7_b (s : State) : Result := setOn 7 (.reg .b) s

/-- `SET 7,C` (R172). -/
def exec_set_7_c (s : State) : Result := setOn 7 (.reg .c) s

/-- `SET 7,D` (R172). -/
def exec_set_7_d (s : State) : Result := setOn 7 (.reg .d) s

/-- `SET 7,E` (R172). -/
def exec_set_7_e (s : State) : Result := setOn 7 (.reg .e) s

/-- `SET 7,H` (R172). -/
def exec_set_7_h (s : State) : Result := setOn 7 (.reg .h) s

/-- `SET 7,L` (R172). -/
def exec_set_7_l (s : State) : Result := setOn 7 (.reg .l) s

/-- `SET 7,(HL)` (R172). -/
def exec_set_7_mHL (s : State) : Result := setOn 7 .memHL s

/-- `SET 7,A` (R172). -/
def exec_set_7_a (s : State) : Result := setOn 7 (.reg .a) s

end Sys2Proof.Machine
end

