-- ==== Sys2Proof/Machine/Control.lean ====
section
/-!
DEFINITION. Jumps, calls and returns (45_control.md). PC is the address of the next instruction when
a transfer is made; a condition is read when the instruction executes (R210). The shared operations
first, then one meaning per opcode.
-/
namespace Sys2Proof.Machine

/-- `PC <- next + e8`, PC being past the instruction (R214). -/
def jumpRelative (e : Byte) (s : State) : State := s.setPc (s.pc + sext8 e)

/-- JP cc,n16 (R212). -/
def jumpIf (cc : Cond) (n : Word) (s : State) : Result :=
  let s := s.advance 3
  .next (if holds s.flags cc then s.setPc n else s)

/-- JR cc,e8 (R215). -/
def jumpRelativeIf (cc : Cond) (e : Byte) (s : State) : Result :=
  let s := s.advance 2
  .next (if holds s.flags cc then jumpRelative e s else s)

/-- CALL cc,n16 (R217). -/
def callIf (cc : Cond) (n : Word) (s : State) : Result :=
  let s := s.advance 3
  .next (if holds s.flags cc then s.doCall n else s)

/-- RET cc (R219). -/
def returnIf (cc : Cond) (s : State) : Result :=
  let s := s.advance 1
  .next (if holds s.flags cc then s.doReturn else s)

/-! Jumps -/

/-- `JP n16` (R211). -/
def exec_jp_n16 (n : Word) (s : State) : Result := .next ((s.advance 3).setPc n)

/-- `JP NZ,n16` (R212). -/
def exec_jp_nz_n16 (n : Word) (s : State) : Result := jumpIf .nz n s

/-- `JP Z,n16` (R212). -/
def exec_jp_z_n16 (n : Word) (s : State) : Result := jumpIf .z n s

/-- `JP NC,n16` (R212). -/
def exec_jp_nc_n16 (n : Word) (s : State) : Result := jumpIf .nc n s

/-- `JP C,n16` (R212). -/
def exec_jp_c_n16 (n : Word) (s : State) : Result := jumpIf .c n s

/-- `JP HL` (R213). -/
def exec_jp_hl (s : State) : Result := .next ((s.advance 1).setPc s.hl)

/-- `JR e8` (R214). -/
def exec_jr_e8 (e : Byte) (s : State) : Result := .next (jumpRelative e (s.advance 2))

/-- `JR NZ,e8` (R215). -/
def exec_jr_nz_e8 (e : Byte) (s : State) : Result := jumpRelativeIf .nz e s

/-- `JR Z,e8` (R215). -/
def exec_jr_z_e8 (e : Byte) (s : State) : Result := jumpRelativeIf .z e s

/-- `JR NC,e8` (R215). -/
def exec_jr_nc_e8 (e : Byte) (s : State) : Result := jumpRelativeIf .nc e s

/-- `JR C,e8` (R215). -/
def exec_jr_c_e8 (e : Byte) (s : State) : Result := jumpRelativeIf .c e s

/-! Calls -/

/-- `CALL n16` (R216). -/
def exec_call_n16 (n : Word) (s : State) : Result := .next ((s.advance 3).doCall n)

/-- `CALL NZ,n16` (R217). -/
def exec_call_nz_n16 (n : Word) (s : State) : Result := callIf .nz n s

/-- `CALL Z,n16` (R217). -/
def exec_call_z_n16 (n : Word) (s : State) : Result := callIf .z n s

/-- `CALL NC,n16` (R217). -/
def exec_call_nc_n16 (n : Word) (s : State) : Result := callIf .nc n s

/-- `CALL C,n16` (R217). -/
def exec_call_c_n16 (n : Word) (s : State) : Result := callIf .c n s

/-- `RST 0x00` (R221). -/
def exec_rst_00 (s : State) : Result := .next ((s.advance 1).doCall 0x00)

/-- `RST 0x08` (R221). -/
def exec_rst_08 (s : State) : Result := .next ((s.advance 1).doCall 0x08)

/-- `RST 0x10` (R221). -/
def exec_rst_10 (s : State) : Result := .next ((s.advance 1).doCall 0x10)

/-- `RST 0x18` (R221). -/
def exec_rst_18 (s : State) : Result := .next ((s.advance 1).doCall 0x18)

/-- `RST 0x20` (R221). -/
def exec_rst_20 (s : State) : Result := .next ((s.advance 1).doCall 0x20)

/-- `RST 0x28` (R221). -/
def exec_rst_28 (s : State) : Result := .next ((s.advance 1).doCall 0x28)

/-- `RST 0x30` (R221). -/
def exec_rst_30 (s : State) : Result := .next ((s.advance 1).doCall 0x30)

/-- `RST 0x38` (R221). -/
def exec_rst_38 (s : State) : Result := .next ((s.advance 1).doCall 0x38)

/-! Returns -/

/-- `RET` (R218). -/
def exec_ret (s : State) : Result := .next (s.advance 1).doReturn

/-- `RET NZ` (R219). -/
def exec_ret_nz (s : State) : Result := returnIf .nz s

/-- `RET Z` (R219). -/
def exec_ret_z (s : State) : Result := returnIf .z s

/-- `RET NC` (R219). -/
def exec_ret_nc (s : State) : Result := returnIf .nc s

/-- `RET C` (R219). -/
def exec_ret_c (s : State) : Result := returnIf .c s

/-- `RETI` (R220). -/
def exec_reti (s : State) : Result := .next (s.advance 1).returnFromInterrupt

end Sys2Proof.Machine
end

