-- ==== Sys2Proof/Machine/Load.lean ====
section
/-!
DEFINITION. Loads, stores and the stack (44_load_stack.md). The shared operations first, then one
meaning per opcode. No flag changes but by POP AF.
-/
namespace Sys2Proof.Machine

/-- LD r,r' (R180). -/
def loadRegReg (dst src : Reg8) (s : State) : Result :=
  let s := s.advance 1
  .next (s.setReg dst (s.reg src))

/-- LD r,n8 and LD (HL),n8 (R181, R184). -/
def loadImm (o : Operand8) (n : Byte) (s : State) : Result := .next ((s.advance 2).writeOp o n)

/-- LD r,(HL): the address is the old HL (R182). -/
def loadRegMem (dst : Reg8) (s : State) : Result :=
  let s := s.advance 1
  .next (s.setReg dst (s.busRead s.hl))

/-- LD (HL),r (R183). -/
def loadMemReg (src : Reg8) (s : State) : Result :=
  let s := s.advance 1
  .next (s.busWrite s.hl (s.reg src))

/-- LD A,(rr), with HL stepped after the access in the (HL+) and (HL-) forms (R185, R187, R188). -/
def loadAMem (p : PairMem) (s : State) : Result :=
  let s := s.advance 1
  .next ((s.setA (s.busRead (s.memAddr p))).memStep p)

/-- LD (rr),A, with HL stepped after the access in the (HL+) and (HL-) forms (R186, R189, R190). -/
def loadMemA (p : PairMem) (s : State) : Result :=
  let s := s.advance 1
  .next ((s.busWrite (s.memAddr p) s.regs.a).memStep p)

/-- A from an address, PC being past the instruction (R191, R193, R195). -/
def loadAAt (addr : Word) (s : State) : Result := .next (s.setA (s.busRead addr))

/-- A to an address, PC being past the instruction (R192, R194, R196). -/
def storeAAt (addr : Word) (s : State) : Result := .next (s.busWrite addr s.regs.a)

/-- PUSH rr (R200). -/
def pushOn (p : StackPair) (s : State) : Result :=
  let s := s.advance 1
  .next (s.push (s.stackPair p))

/-- POP rr (R201). -/
def popOn (p : StackPair) (s : State) : Result :=
  let s := s.advance 1
  .next (s.popped.setStackPair p s.popValue)

/-! 8-bit loads -/

/-- `LD B,B` (R180). -/
def exec_ld_b_b (s : State) : Result := loadRegReg .b .b s

/-- `LD B,C` (R180). -/
def exec_ld_b_c (s : State) : Result := loadRegReg .b .c s

/-- `LD B,D` (R180). -/
def exec_ld_b_d (s : State) : Result := loadRegReg .b .d s

/-- `LD B,E` (R180). -/
def exec_ld_b_e (s : State) : Result := loadRegReg .b .e s

/-- `LD B,H` (R180). -/
def exec_ld_b_h (s : State) : Result := loadRegReg .b .h s

/-- `LD B,L` (R180). -/
def exec_ld_b_l (s : State) : Result := loadRegReg .b .l s

/-- `LD B,A` (R180). -/
def exec_ld_b_a (s : State) : Result := loadRegReg .b .a s

/-- `LD C,B` (R180). -/
def exec_ld_c_b (s : State) : Result := loadRegReg .c .b s

/-- `LD C,C` (R180). -/
def exec_ld_c_c (s : State) : Result := loadRegReg .c .c s

/-- `LD C,D` (R180). -/
def exec_ld_c_d (s : State) : Result := loadRegReg .c .d s

/-- `LD C,E` (R180). -/
def exec_ld_c_e (s : State) : Result := loadRegReg .c .e s

/-- `LD C,H` (R180). -/
def exec_ld_c_h (s : State) : Result := loadRegReg .c .h s

/-- `LD C,L` (R180). -/
def exec_ld_c_l (s : State) : Result := loadRegReg .c .l s

/-- `LD C,A` (R180). -/
def exec_ld_c_a (s : State) : Result := loadRegReg .c .a s

/-- `LD D,B` (R180). -/
def exec_ld_d_b (s : State) : Result := loadRegReg .d .b s

/-- `LD D,C` (R180). -/
def exec_ld_d_c (s : State) : Result := loadRegReg .d .c s

/-- `LD D,D` (R180). -/
def exec_ld_d_d (s : State) : Result := loadRegReg .d .d s

/-- `LD D,E` (R180). -/
def exec_ld_d_e (s : State) : Result := loadRegReg .d .e s

/-- `LD D,H` (R180). -/
def exec_ld_d_h (s : State) : Result := loadRegReg .d .h s

/-- `LD D,L` (R180). -/
def exec_ld_d_l (s : State) : Result := loadRegReg .d .l s

/-- `LD D,A` (R180). -/
def exec_ld_d_a (s : State) : Result := loadRegReg .d .a s

/-- `LD E,B` (R180). -/
def exec_ld_e_b (s : State) : Result := loadRegReg .e .b s

/-- `LD E,C` (R180). -/
def exec_ld_e_c (s : State) : Result := loadRegReg .e .c s

/-- `LD E,D` (R180). -/
def exec_ld_e_d (s : State) : Result := loadRegReg .e .d s

/-- `LD E,E` (R180). -/
def exec_ld_e_e (s : State) : Result := loadRegReg .e .e s

/-- `LD E,H` (R180). -/
def exec_ld_e_h (s : State) : Result := loadRegReg .e .h s

/-- `LD E,L` (R180). -/
def exec_ld_e_l (s : State) : Result := loadRegReg .e .l s

/-- `LD E,A` (R180). -/
def exec_ld_e_a (s : State) : Result := loadRegReg .e .a s

/-- `LD H,B` (R180). -/
def exec_ld_h_b (s : State) : Result := loadRegReg .h .b s

/-- `LD H,C` (R180). -/
def exec_ld_h_c (s : State) : Result := loadRegReg .h .c s

/-- `LD H,D` (R180). -/
def exec_ld_h_d (s : State) : Result := loadRegReg .h .d s

/-- `LD H,E` (R180). -/
def exec_ld_h_e (s : State) : Result := loadRegReg .h .e s

/-- `LD H,H` (R180). -/
def exec_ld_h_h (s : State) : Result := loadRegReg .h .h s

/-- `LD H,L` (R180). -/
def exec_ld_h_l (s : State) : Result := loadRegReg .h .l s

/-- `LD H,A` (R180). -/
def exec_ld_h_a (s : State) : Result := loadRegReg .h .a s

/-- `LD L,B` (R180). -/
def exec_ld_l_b (s : State) : Result := loadRegReg .l .b s

/-- `LD L,C` (R180). -/
def exec_ld_l_c (s : State) : Result := loadRegReg .l .c s

/-- `LD L,D` (R180). -/
def exec_ld_l_d (s : State) : Result := loadRegReg .l .d s

/-- `LD L,E` (R180). -/
def exec_ld_l_e (s : State) : Result := loadRegReg .l .e s

/-- `LD L,H` (R180). -/
def exec_ld_l_h (s : State) : Result := loadRegReg .l .h s

/-- `LD L,L` (R180). -/
def exec_ld_l_l (s : State) : Result := loadRegReg .l .l s

/-- `LD L,A` (R180). -/
def exec_ld_l_a (s : State) : Result := loadRegReg .l .a s

/-- `LD A,B` (R180). -/
def exec_ld_a_b (s : State) : Result := loadRegReg .a .b s

/-- `LD A,C` (R180). -/
def exec_ld_a_c (s : State) : Result := loadRegReg .a .c s

/-- `LD A,D` (R180). -/
def exec_ld_a_d (s : State) : Result := loadRegReg .a .d s

/-- `LD A,E` (R180). -/
def exec_ld_a_e (s : State) : Result := loadRegReg .a .e s

/-- `LD A,H` (R180). -/
def exec_ld_a_h (s : State) : Result := loadRegReg .a .h s

/-- `LD A,L` (R180). -/
def exec_ld_a_l (s : State) : Result := loadRegReg .a .l s

/-- `LD A,A` (R180). -/
def exec_ld_a_a (s : State) : Result := loadRegReg .a .a s

/-- `LD B,n8` (R181). -/
def exec_ld_b_n8 (n : Byte) (s : State) : Result := loadImm (.reg .b) n s

/-- `LD C,n8` (R181). -/
def exec_ld_c_n8 (n : Byte) (s : State) : Result := loadImm (.reg .c) n s

/-- `LD D,n8` (R181). -/
def exec_ld_d_n8 (n : Byte) (s : State) : Result := loadImm (.reg .d) n s

/-- `LD E,n8` (R181). -/
def exec_ld_e_n8 (n : Byte) (s : State) : Result := loadImm (.reg .e) n s

/-- `LD H,n8` (R181). -/
def exec_ld_h_n8 (n : Byte) (s : State) : Result := loadImm (.reg .h) n s

/-- `LD L,n8` (R181). -/
def exec_ld_l_n8 (n : Byte) (s : State) : Result := loadImm (.reg .l) n s

/-- `LD A,n8` (R181). -/
def exec_ld_a_n8 (n : Byte) (s : State) : Result := loadImm (.reg .a) n s

/-- `LD B,(HL)` (R182). -/
def exec_ld_b_mHL (s : State) : Result := loadRegMem .b s

/-- `LD C,(HL)` (R182). -/
def exec_ld_c_mHL (s : State) : Result := loadRegMem .c s

/-- `LD D,(HL)` (R182). -/
def exec_ld_d_mHL (s : State) : Result := loadRegMem .d s

/-- `LD E,(HL)` (R182). -/
def exec_ld_e_mHL (s : State) : Result := loadRegMem .e s

/-- `LD H,(HL)` (R182). -/
def exec_ld_h_mHL (s : State) : Result := loadRegMem .h s

/-- `LD L,(HL)` (R182). -/
def exec_ld_l_mHL (s : State) : Result := loadRegMem .l s

/-- `LD A,(HL)` (R182). -/
def exec_ld_a_mHL (s : State) : Result := loadRegMem .a s

/-- `LD (HL),B` (R183). -/
def exec_ld_mHL_b (s : State) : Result := loadMemReg .b s

/-- `LD (HL),C` (R183). -/
def exec_ld_mHL_c (s : State) : Result := loadMemReg .c s

/-- `LD (HL),D` (R183). -/
def exec_ld_mHL_d (s : State) : Result := loadMemReg .d s

/-- `LD (HL),E` (R183). -/
def exec_ld_mHL_e (s : State) : Result := loadMemReg .e s

/-- `LD (HL),H` (R183). -/
def exec_ld_mHL_h (s : State) : Result := loadMemReg .h s

/-- `LD (HL),L` (R183). -/
def exec_ld_mHL_l (s : State) : Result := loadMemReg .l s

/-- `LD (HL),A` (R183). -/
def exec_ld_mHL_a (s : State) : Result := loadMemReg .a s

/-- `LD (HL),n8` (R184). -/
def exec_ld_mHL_n8 (n : Byte) (s : State) : Result := loadImm .memHL n s

/-- `LD A,(BC)` (R185). -/
def exec_ld_a_mBC (s : State) : Result := loadAMem .bc s

/-- `LD A,(DE)` (R185). -/
def exec_ld_a_mDE (s : State) : Result := loadAMem .de s

/-- `LD A,(HL+)` (R187). -/
def exec_ld_a_mHLi (s : State) : Result := loadAMem .hlInc s

/-- `LD A,(HL-)` (R188). -/
def exec_ld_a_mHLd (s : State) : Result := loadAMem .hlDec s

/-- `LD (BC),A` (R186). -/
def exec_ld_mBC_a (s : State) : Result := loadMemA .bc s

/-- `LD (DE),A` (R186). -/
def exec_ld_mDE_a (s : State) : Result := loadMemA .de s

/-- `LD (HL+),A` (R189). -/
def exec_ld_mHLi_a (s : State) : Result := loadMemA .hlInc s

/-- `LD (HL-),A` (R190). -/
def exec_ld_mHLd_a (s : State) : Result := loadMemA .hlDec s

/-- `LD A,(n16)` (R191). -/
def exec_ld_a_mN16 (n : Word) (s : State) : Result := loadAAt n (s.advance 3)

/-- `LD (n16),A` (R192). -/
def exec_ld_mN16_a (n : Word) (s : State) : Result := storeAAt n (s.advance 3)

/-- `LDH A,(n8)` (R193). -/
def exec_ldh_a_mN8 (n : Byte) (s : State) : Result := loadAAt (highPage n) (s.advance 2)

/-- `LDH (n8),A` (R194). -/
def exec_ldh_mN8_a (n : Byte) (s : State) : Result := storeAAt (highPage n) (s.advance 2)

/-- `LD A,(C)` (R195). -/
def exec_ld_a_mC (s : State) : Result := loadAAt (highPage s.regs.c) (s.advance 1)

/-- `LD (C),A` (R196). -/
def exec_ld_mC_a (s : State) : Result := storeAAt (highPage s.regs.c) (s.advance 1)

/-! 16-bit loads -/

/-- `LD BC,n16` (R197). -/
def exec_ld_bc_n16 (n : Word) (s : State) : Result := .next ((s.advance 3).setPair .bc n)

/-- `LD DE,n16` (R197). -/
def exec_ld_de_n16 (n : Word) (s : State) : Result := .next ((s.advance 3).setPair .de n)

/-- `LD HL,n16` (R197). -/
def exec_ld_hl_n16 (n : Word) (s : State) : Result := .next ((s.advance 3).setPair .hl n)

/-- `LD SP,n16` (R197). -/
def exec_ld_sp_n16 (n : Word) (s : State) : Result := .next ((s.advance 3).setPair .sp n)

/-- `LD (n16),SP` (R198). -/
def exec_ld_mN16_sp (n : Word) (s : State) : Result := .next ((s.advance 3).busWrite16 n s.sp)

/-- `LD SP,HL` (R199). -/
def exec_ld_sp_hl (s : State) : Result := .next ((s.advance 1).setSp s.hl)

/-! The stack -/

/-- `PUSH BC` (R200). -/
def exec_push_bc (s : State) : Result := pushOn .bc s

/-- `PUSH DE` (R200). -/
def exec_push_de (s : State) : Result := pushOn .de s

/-- `PUSH HL` (R200). -/
def exec_push_hl (s : State) : Result := pushOn .hl s

/-- `PUSH AF` (R200). -/
def exec_push_af (s : State) : Result := pushOn .af s

/-- `POP BC` (R201). -/
def exec_pop_bc (s : State) : Result := popOn .bc s

/-- `POP DE` (R201). -/
def exec_pop_de (s : State) : Result := popOn .de s

/-- `POP HL` (R201). -/
def exec_pop_hl (s : State) : Result := popOn .hl s

/-- `POP AF` (R201). -/
def exec_pop_af (s : State) : Result := popOn .af s

end Sys2Proof.Machine
end

