-- ==== Sys2Proof/Machine/Rotate.lean ====
section
/-!
DEFINITION. Rotates and shifts (42_rotate_shift.md). The shared operations first, then one meaning
per opcode.
-/
namespace Sys2Proof.Machine

/-- An unprefixed rotate of A (R151-R154). -/
def rotateAOn (op : RotOp) (s : State) : Result :=
  let s := s.advance 1
  let r := rotateA op s.flags s.regs.a
  .next ((s.setA r.1).setFlags r.2)

/-- A CB rotate or shift of an operand: for (HL) one read, then one write (R150, R155-R162). -/
def rotateOn (op : RotOp) (o : Operand8) (s : State) : Result :=
  let s := s.advance 2
  let r := rotateCB op s.flags (s.readOp o)
  .next ((s.writeOp o r.1).setFlags r.2)

/-! The unprefixed rotates of A -/

/-- `RLCA` (R151). -/
def exec_rlca (s : State) : Result := rotateAOn .rlc s

/-- `RRCA` (R152). -/
def exec_rrca (s : State) : Result := rotateAOn .rrc s

/-- `RLA` (R153). -/
def exec_rla (s : State) : Result := rotateAOn .rl s

/-- `RRA` (R154). -/
def exec_rra (s : State) : Result := rotateAOn .rr s

/-! RLC -/

/-- `RLC B` (R155). -/
def exec_rlc_b (s : State) : Result := rotateOn .rlc (.reg .b) s

/-- `RLC C` (R155). -/
def exec_rlc_c (s : State) : Result := rotateOn .rlc (.reg .c) s

/-- `RLC D` (R155). -/
def exec_rlc_d (s : State) : Result := rotateOn .rlc (.reg .d) s

/-- `RLC E` (R155). -/
def exec_rlc_e (s : State) : Result := rotateOn .rlc (.reg .e) s

/-- `RLC H` (R155). -/
def exec_rlc_h (s : State) : Result := rotateOn .rlc (.reg .h) s

/-- `RLC L` (R155). -/
def exec_rlc_l (s : State) : Result := rotateOn .rlc (.reg .l) s

/-- `RLC (HL)` (R155). -/
def exec_rlc_mHL (s : State) : Result := rotateOn .rlc .memHL s

/-- `RLC A` (R155). -/
def exec_rlc_a (s : State) : Result := rotateOn .rlc (.reg .a) s

/-! RRC -/

/-- `RRC B` (R156). -/
def exec_rrc_b (s : State) : Result := rotateOn .rrc (.reg .b) s

/-- `RRC C` (R156). -/
def exec_rrc_c (s : State) : Result := rotateOn .rrc (.reg .c) s

/-- `RRC D` (R156). -/
def exec_rrc_d (s : State) : Result := rotateOn .rrc (.reg .d) s

/-- `RRC E` (R156). -/
def exec_rrc_e (s : State) : Result := rotateOn .rrc (.reg .e) s

/-- `RRC H` (R156). -/
def exec_rrc_h (s : State) : Result := rotateOn .rrc (.reg .h) s

/-- `RRC L` (R156). -/
def exec_rrc_l (s : State) : Result := rotateOn .rrc (.reg .l) s

/-- `RRC (HL)` (R156). -/
def exec_rrc_mHL (s : State) : Result := rotateOn .rrc .memHL s

/-- `RRC A` (R156). -/
def exec_rrc_a (s : State) : Result := rotateOn .rrc (.reg .a) s

/-! RL -/

/-- `RL B` (R157). -/
def exec_rl_b (s : State) : Result := rotateOn .rl (.reg .b) s

/-- `RL C` (R157). -/
def exec_rl_c (s : State) : Result := rotateOn .rl (.reg .c) s

/-- `RL D` (R157). -/
def exec_rl_d (s : State) : Result := rotateOn .rl (.reg .d) s

/-- `RL E` (R157). -/
def exec_rl_e (s : State) : Result := rotateOn .rl (.reg .e) s

/-- `RL H` (R157). -/
def exec_rl_h (s : State) : Result := rotateOn .rl (.reg .h) s

/-- `RL L` (R157). -/
def exec_rl_l (s : State) : Result := rotateOn .rl (.reg .l) s

/-- `RL (HL)` (R157). -/
def exec_rl_mHL (s : State) : Result := rotateOn .rl .memHL s

/-- `RL A` (R157). -/
def exec_rl_a (s : State) : Result := rotateOn .rl (.reg .a) s

/-! RR -/

/-- `RR B` (R158). -/
def exec_rr_b (s : State) : Result := rotateOn .rr (.reg .b) s

/-- `RR C` (R158). -/
def exec_rr_c (s : State) : Result := rotateOn .rr (.reg .c) s

/-- `RR D` (R158). -/
def exec_rr_d (s : State) : Result := rotateOn .rr (.reg .d) s

/-- `RR E` (R158). -/
def exec_rr_e (s : State) : Result := rotateOn .rr (.reg .e) s

/-- `RR H` (R158). -/
def exec_rr_h (s : State) : Result := rotateOn .rr (.reg .h) s

/-- `RR L` (R158). -/
def exec_rr_l (s : State) : Result := rotateOn .rr (.reg .l) s

/-- `RR (HL)` (R158). -/
def exec_rr_mHL (s : State) : Result := rotateOn .rr .memHL s

/-- `RR A` (R158). -/
def exec_rr_a (s : State) : Result := rotateOn .rr (.reg .a) s

/-! SLA -/

/-- `SLA B` (R159). -/
def exec_sla_b (s : State) : Result := rotateOn .sla (.reg .b) s

/-- `SLA C` (R159). -/
def exec_sla_c (s : State) : Result := rotateOn .sla (.reg .c) s

/-- `SLA D` (R159). -/
def exec_sla_d (s : State) : Result := rotateOn .sla (.reg .d) s

/-- `SLA E` (R159). -/
def exec_sla_e (s : State) : Result := rotateOn .sla (.reg .e) s

/-- `SLA H` (R159). -/
def exec_sla_h (s : State) : Result := rotateOn .sla (.reg .h) s

/-- `SLA L` (R159). -/
def exec_sla_l (s : State) : Result := rotateOn .sla (.reg .l) s

/-- `SLA (HL)` (R159). -/
def exec_sla_mHL (s : State) : Result := rotateOn .sla .memHL s

/-- `SLA A` (R159). -/
def exec_sla_a (s : State) : Result := rotateOn .sla (.reg .a) s

/-! SRA -/

/-- `SRA B` (R160). -/
def exec_sra_b (s : State) : Result := rotateOn .sra (.reg .b) s

/-- `SRA C` (R160). -/
def exec_sra_c (s : State) : Result := rotateOn .sra (.reg .c) s

/-- `SRA D` (R160). -/
def exec_sra_d (s : State) : Result := rotateOn .sra (.reg .d) s

/-- `SRA E` (R160). -/
def exec_sra_e (s : State) : Result := rotateOn .sra (.reg .e) s

/-- `SRA H` (R160). -/
def exec_sra_h (s : State) : Result := rotateOn .sra (.reg .h) s

/-- `SRA L` (R160). -/
def exec_sra_l (s : State) : Result := rotateOn .sra (.reg .l) s

/-- `SRA (HL)` (R160). -/
def exec_sra_mHL (s : State) : Result := rotateOn .sra .memHL s

/-- `SRA A` (R160). -/
def exec_sra_a (s : State) : Result := rotateOn .sra (.reg .a) s

/-! SWAP -/

/-- `SWAP B` (R161). -/
def exec_swap_b (s : State) : Result := rotateOn .swap (.reg .b) s

/-- `SWAP C` (R161). -/
def exec_swap_c (s : State) : Result := rotateOn .swap (.reg .c) s

/-- `SWAP D` (R161). -/
def exec_swap_d (s : State) : Result := rotateOn .swap (.reg .d) s

/-- `SWAP E` (R161). -/
def exec_swap_e (s : State) : Result := rotateOn .swap (.reg .e) s

/-- `SWAP H` (R161). -/
def exec_swap_h (s : State) : Result := rotateOn .swap (.reg .h) s

/-- `SWAP L` (R161). -/
def exec_swap_l (s : State) : Result := rotateOn .swap (.reg .l) s

/-- `SWAP (HL)` (R161). -/
def exec_swap_mHL (s : State) : Result := rotateOn .swap .memHL s

/-- `SWAP A` (R161). -/
def exec_swap_a (s : State) : Result := rotateOn .swap (.reg .a) s

/-! SRL -/

/-- `SRL B` (R162). -/
def exec_srl_b (s : State) : Result := rotateOn .srl (.reg .b) s

/-- `SRL C` (R162). -/
def exec_srl_c (s : State) : Result := rotateOn .srl (.reg .c) s

/-- `SRL D` (R162). -/
def exec_srl_d (s : State) : Result := rotateOn .srl (.reg .d) s

/-- `SRL E` (R162). -/
def exec_srl_e (s : State) : Result := rotateOn .srl (.reg .e) s

/-- `SRL H` (R162). -/
def exec_srl_h (s : State) : Result := rotateOn .srl (.reg .h) s

/-- `SRL L` (R162). -/
def exec_srl_l (s : State) : Result := rotateOn .srl (.reg .l) s

/-- `SRL (HL)` (R162). -/
def exec_srl_mHL (s : State) : Result := rotateOn .srl .memHL s

/-- `SRL A` (R162). -/
def exec_srl_a (s : State) : Result := rotateOn .srl (.reg .a) s

end Sys2Proof.Machine
end

