-- ==== Sys2Proof/Machine/System.lean ====
section
/-!
DEFINITION. System instructions (46_system.md): NOP, HALT, DI, EI, STOP and the eleven unused
opcodes.
-/
namespace Sys2Proof.Machine

/-- An unused opcode: PC stays at it, and the ILLEGAL_OPCODE fault is taken (R237, R241). -/
def illegalOn (op : Byte) (s : State) : Result := .next (s.raiseFault .illegalOpcode op)

/-- `NOP` (R230). -/
def exec_nop (s : State) : Result := .next (s.advance 1)

/-- `HALT` (R231). -/
def exec_halt (s : State) : Result := .next { s.advance 1 with halted := true }

/-- `DI` (R233). -/
def exec_di (s : State) : Result := .next { s.advance 1 with irq.ime := false, irq.eiDelay := 0 }

/-- `EI` (R234). -/
def exec_ei (s : State) : Result := .next { s.advance 1 with irq.eiDelay := 2 }

/-- `STOP` (R235). -/
def exec_stop (_x : Byte) (s : State) : Result := .next (s.advance 2)

/-! The unused opcodes (R101) -/

/-- `ILLEGAL_D3` (R237). -/
def exec_illegal_d3 (s : State) : Result := illegalOn 0xD3 s

/-- `ILLEGAL_DB` (R237). -/
def exec_illegal_db (s : State) : Result := illegalOn 0xDB s

/-- `ILLEGAL_DD` (R237). -/
def exec_illegal_dd (s : State) : Result := illegalOn 0xDD s

/-- `ILLEGAL_E3` (R237). -/
def exec_illegal_e3 (s : State) : Result := illegalOn 0xE3 s

/-- `ILLEGAL_E4` (R237). -/
def exec_illegal_e4 (s : State) : Result := illegalOn 0xE4 s

/-- `ILLEGAL_EB` (R237). -/
def exec_illegal_eb (s : State) : Result := illegalOn 0xEB s

/-- `ILLEGAL_EC` (R237). -/
def exec_illegal_ec (s : State) : Result := illegalOn 0xEC s

/-- `ILLEGAL_ED` (R237). -/
def exec_illegal_ed (s : State) : Result := illegalOn 0xED s

/-- `ILLEGAL_F4` (R237). -/
def exec_illegal_f4 (s : State) : Result := illegalOn 0xF4 s

/-- `ILLEGAL_FC` (R237). -/
def exec_illegal_fc (s : State) : Result := illegalOn 0xFC s

/-- `ILLEGAL_FD` (R237). -/
def exec_illegal_fd (s : State) : Result := illegalOn 0xFD s

end Sys2Proof.Machine
end

