-- ==== Sys2Proof/Machine/Timer.lean ====
section
/-!
DEFINITION. The timer/divider unit (60_exceptions.md R250-R252). The rules' loops are written in
closed form, so that they are total in every state (log entry 10).
-/
namespace Sys2Proof.Machine

/-- The divider part of `timerAdvance(c)`: DIV counts the crossings of 256 (R250). -/
def advanceDiv (c : Nat) (s : State) : State :=
  let t := s.timer.divCounter + c
  { s with timer.divCounter := t % 256, timer.div := s.timer.div + BitVec.ofNat 8 (t / 256) }

/-- A TIMA increment: past 0xFF it is reloaded from TMA and the timer interrupt is requested
(R252). -/
def incTima (s : State) : State :=
  if s.timer.tima = 0xFF then
    { s with timer.tima := s.timer.tma, irq.ifr := s.irq.ifr ||| 0x04 }
  else { s with timer.tima := s.timer.tima + 1 }

/-- `n` TIMA increments. -/
def incTimaTimes : Nat → State → State
  | 0, s => s
  | n + 1, s => incTimaTimes n (incTima s)

/-- How often a countdown that stands at `t` expires before it is above 0 again (R251). -/
def expiries (t : Int) (period : Nat) : Nat := if t ≤ 0 then ((-t) / period).toNat + 1 else 0

/-- The countdown part of `timerAdvance(c)`: frozen unless TAC bit 2 is 1 (R251). -/
def advanceTima (c : Nat) (s : State) : State :=
  if s.timer.tac.getLsbD 2 then
    let t := s.timer.timaCounter - c
    let n := expiries t s.timer.scaler.cycles
    incTimaTimes n { s with timer.timaCounter := t + n * s.timer.scaler.cycles }
  else s

/-- `timerAdvance(c)` (R250, R251). -/
def timerAdvance (c : Nat) (s : State) : State := advanceTima c (advanceDiv c s)

end Sys2Proof.Machine
end

