-- ==== Sys2Proof/Machine/Loop.lean ====
section
/-!
DEFINITION. The step with its result (60_exceptions.md R240, R263), the operations of the host
(R262-R266; 70_reset_and_hazards.md R280, R282), and the placing of an instruction for the next
fetch.
-/
namespace Sys2Proof.Machine

/-- What a step returns beside the state (R240, R263). -/
inductive StepResult where
  /-- the step completed, at this many cycles -/
  | completed (c : Nat)
  /-- the instruction faulted -/
  | faulted (r : FaultRecord)
  /-- the core was not running -/
  | stopped
  deriving DecidableEq, Repr

/-- The external request drawn next: only bits 0, 1, 3, 4 (R247). -/
def State.extDraw (s : State) : Byte :=
  (match s.env.script with
    | e :: _ => e
    | [] => Config.extIrq s.env.draws) &&& 0x1B

/-- `IF <- IF | ext`, and the draw is used up (R240, R247). -/
def State.takeExt (s : State) : State :=
  { s with
    irq.ifr := s.irq.ifr ||| s.extDraw
    env.draws := s.env.draws + 1
    env.script := s.env.script.tail }

/-- The EI-delay bookkeeping at the end of an executed instruction (R240, R29). -/
def State.eiTick (s : State) : State :=
  if s.irq.eiDelay = 0 then s
  else
    { s with
      irq.eiDelay := s.irq.eiDelay - 1
      irq.ime := s.irq.ime || decide (s.irq.eiDelay = 1) }

/-- Leave the halted state if an interrupt is requested and enabled, whatever IME is (R232). -/
def State.wake (s : State) : State :=
  if s.halted && s.pending.isSome then { s with halted := false } else s

/-- The interrupt check of a step that has used `c` cycles: wake, then dispatch the first pending
interrupt if IME is set, at its own cost (R240, R249). -/
def interruptCheck (c : Nat) (s : State) : StepResult × State :=
  let w := s.wake
  match (if w.irq.ime then w.pending else none) with
  | some k => (.completed (c + dispatchCycles), timerAdvance dispatchCycles (w.dispatch k))
  | none => (.completed c, w)

/-- The part of a step after the instruction or halted tick (R240). -/
def endOfStep (executed : Bool) (c : Nat) (s : State) : StepResult × State :=
  let s1 := (timerAdvance c s).takeExt
  interruptCheck c (if executed then s1.eiTick else s1)

/-- The instruction at PC, read through the bus byte by byte (R85, R91, D36). The bytes past its
length are read too, which changes nothing (R53; log entry 11). -/
def State.fetched (s : State) : Instr :=
  decodeBytes (s.busRead s.pc) (s.busRead (s.pc + 1)) (s.busRead (s.pc + 2))

/-- `step()` with its result (R240, R263). -/
def stepInstruction (s : State) : Host.Outcome (StepResult × State) Fault Refusal :=
  if s.running = false then .next (.stopped, s)
  else if s.halted then .next (endOfStep false haltedCycles s)
  else
    match exec s.fetched s with
    | .next t =>
      if wellFormed s.fetched then .next (endOfStep true (cycles s.fetched s) t)
      else .next (.faulted { reason := .illegalOpcode, pc := s.pc, op := s.busRead s.pc }, t)
    | .fault r => .fault r
    | .refused r => .refused r

/-- The step's state alone. -/
def stepState (s : State) : Result :=
  match stepInstruction s with
  | .next r => .next r.2
  | .fault r => .fault r
  | .refused r => .refused r

/-! The host's operations (R266). -/

/-- `reset()`: every piece of state at its reset value, ROM kept, the open contents drawn anew (R280;
log entry 14). -/
def hostReset (s : State) : State :=
  State.powerOn s.cart.rom s.cart.romLen { s.env with resets := s.env.resets + 1 }

/-- `stop()` (R266). -/
def hostStop (s : State) : State := { s with running := false }

/-- `loadRom(bytes)`: admitted only while the core is not running and for an image of at least 0x4000
bytes; replaces ROM, then resets (R282, R266). -/
def loadRom (bytes : List Byte) (s : State) : Result :=
  if s.running then .refused .loadWhileRunning
  else if bytes.length < romMinSize then .refused .imageTooShort
  else
    .next
      (hostReset { s with cart.rom := Memory.ofBytes 0 bytes, cart.romLen := bytes.length })

/-- The loop of `runCycleBudget`, at most `fuel` steps of it (R262). -/
def runBudget : Nat → Int → State → Result
  | 0, _, s => .next s
  | fuel + 1, budget, s =>
    if 0 < budget ∧ s.running = true then
      match stepInstruction s with
      | .next (.completed c, t) => runBudget fuel (budget - c) t
      | .next (.faulted _, t) => .next t
      | .next (.stopped, t) => .next t
      | .fault r => .fault r
      | .refused r => .refused r
    else .next s

/-- `runCycleBudget(n)`; each completed step costs at least one cycle, so `n` steps are enough
(R262). -/
def runCycleBudget (n : Nat) (s : State) : Result := runBudget n n s

/-! Placing an instruction for the next fetch: no operation of the core (log entry 3). -/

/-- Make the cell that `addr` names hold `v`, with no side effect of a bus write. A disabled cartridge
RAM is enabled, since nothing can be fetched from it otherwise. -/
def State.placeByte (s : State) (addr : Word) (v : Byte) : State :=
  match s.cellAt addr with
  | .rom i => { s with cart.rom := Memory.setOver 0 s.cart.rom i v }
  | .ram i => { s with cart.ram := s.cart.ram.set i v }
  | .openBus =>
    { s with
      bank.ramEnabled := true
      cart.ram := s.cart.ram.set (s.ramIndex addr.toNat) v }
  | .flat a =>
    if a = 0xFF04 then { s with timer.div := v }
    else if a = 0xFF05 then { s with timer.tima := v }
    else if a = 0xFF06 then { s with timer.tma := v }
    else if a = 0xFF07 then { s with timer.tac := v }
    else if a = 0xFF0F then { s with irq.ifr := v }
    else if a = 0xFFFF then { s with irq.ie := v }
    else { s with mem := s.mem.set a v }

/-- The core running, not halted, with the bytes of the instruction of bits `w` at PC. -/
def placeInstruction (s : State) (nbits w : Nat) : State :=
  let t := tableBytes nbits (w % 2 ^ nbits)
  let s1 := { s with running := true, halted := false }
  ((s1.placeByte s.pc t.1).placeByte (s.pc + 1) t.2.1).placeByte (s.pc + 2) t.2.2

end Sys2Proof.Machine
end

