-- ==== Sys2Proof/Machine/Step.lean ====
section
/-!
DEFINITION. The step of the machine (60_exceptions.md R240) and the placing of an instruction where
it fetches next.
-/
namespace Sys2Proof.Machine

/-- One step: an instruction or a halted tick, the timer, the interrupt check; a stopped core's step
changes nothing (R240). -/
def step (s : State) : Host.Outcome State Fault Refusal := stepState s

/-- `s` with the instruction of bits `w` (numbered as spec/opcode_table.json numbers them, bits above
`nbits` zero) stored where `step` fetches its next instruction, the core running and not halted.
It stands for the host's loading of a program (log entry 3). -/
def State.withFetchWord (s : State) (nbits w : Nat) : State := placeInstruction s nbits w

end Sys2Proof.Machine
end

