-- ==== Sys2Proof/Safety.lean ====
section
/-!
DEFINITION. What claims call a good state: the ranges and relations the spec gives the state between
steps (10_state.md R29, R32, R39-R42; 20_memory.md R65-R73), and what counts as a safe run.
-/
namespace Sys2Proof.Machine

/-- The flat addresses that hold plain storage: those the bus decode reaches (R42) but for the six
core registers (R33-R38). -/
def isFlatStorage (a : Nat) : Bool :=
  (decide (0x8000 ≤ a ∧ a < 0xA000) || decide (0xC000 ≤ a ∧ a < 0xE000) ||
      decide (0xFE00 ≤ a ∧ a < 0x10000)) &&
    !([0xFF04, 0xFF05, 0xFF06, 0xFF07, 0xFF0F, 0xFFFF].contains a)

/-- The ranges of the bank registers, by family (R40, R66-R73). -/
def bankInRange (fam : Family) (b : Bank) : Prop :=
  match fam with
  | .romOnly => b = { romBank := 1, ramBank := 0, mbcMode := false, ramEnabled := false }
  | .unsupported => b = { romBank := 1, ramBank := 0, mbcMode := false, ramEnabled := false }
  | .mbc1 => b.romBank.toNat ≤ 0x7F ∧ b.romBank.toNat % 32 ≠ 0 ∧ b.ramBank.toNat ≤ 3
  | .mbc2 =>
    1 ≤ b.romBank.toNat ∧ b.romBank.toNat ≤ 0x1F ∧ b.ramBank = 0 ∧ b.mbcMode = false
  | .mbc3 =>
    1 ≤ b.romBank.toNat ∧ b.romBank.toNat ≤ 0x7F ∧ b.ramBank.toNat ≤ 7 ∧ b.mbcMode = false
  | .mbc5 => 1 ≤ b.romBank.toNat ∧ b.mbcMode = false

/-- The invariant of the machine between steps. -/
structure State.Inv (s : State) : Prop where
  /-- eiDelay has the values 0, 1, 2 (R29) -/
  eiDelay_le : s.irq.eiDelay ≤ 2
  /-- divCounter is 0..255 (R39) -/
  divCounter_lt : s.timer.divCounter < 256
  /-- scaler is what TAC selects (R39) -/
  scaler_of_tac : s.timer.scaler = scaleOf s.timer.tac
  /-- timaCounter is 1..scaler (R39) -/
  countdown_range : 1 ≤ s.timer.timaCounter ∧ s.timer.timaCounter ≤ s.timer.scaler.cycles
  /-- the bank registers are in their family's ranges, romBank never 0 (R40, R73) -/
  bank_range : bankInRange s.cart.family s.bank
  /-- the family is the cartridge-type byte's (R41) -/
  family_of_rom : s.cart.family = familyOf (romRead s.cart.rom cartTypeOffset)
  /-- cartDiag says that the family is unsupported (R32) -/
  diag_of_family : s.cart.diag = decide (s.cart.family = .unsupported)
  /-- the ROM is at least 0x4000 bytes (R5) -/
  romLen_ge : romMinSize ≤ s.cart.romLen
  /-- ROM is canonical: rising addresses inside the image, no 0x00 listed -/
  rom_wf : s.cart.rom.wf = true ∧ ∀ cell ∈ s.cart.rom, cell.1 < s.cart.romLen ∧ cell.2 ≠ 0
  /-- cartridge RAM is canonical: rising addresses below CART_RAM_SIZE -/
  ram_wf : s.cart.ram.wf = true ∧ ∀ cell ∈ s.cart.ram, cell.1 < cartRamSize
  /-- the flat array is canonical: rising addresses, each of plain storage -/
  mem_wf : s.mem.wf = true ∧ ∀ cell ∈ s.mem, isFlatStorage cell.1 = true
  /-- a faulted core is stopped, IME clear (R241) -/
  fault_stops : s.fault ≠ none → s.running = false ∧ s.irq.ime = false

/-- A run of `k` steps from `s` is safe: it answers a state, and no instruction of it faulted. -/
def safeRun (k : Nat) (s : State) : Prop :=
  ∃ t : State, Sys2Proof.core.run k s = .next t ∧ t.fault = none

end Sys2Proof.Machine
end

