-- ==== Sys2Proof/Certificates/Slice0/Obligations.lean ====
section
/-!
DEFINITION. The statements for the provers, one per group of rules of spec/. A result is stated as an
equation for the next state, so that it says what changes and that nothing else does. PC after an
instruction is `next`, the instruction's address plus its encoded length (R11). A store is stated
through the bus write at the address its rule gives, with the bytes it leaves alone beside it.
Throughout, the opcode map is the spec's own decision D1, the byte order of immediates D6 and the
cycle counts D2 (log entry 9); other decisions are named where a statement rests on one.
-/
namespace Sys2Proof.Spec

open Sys2Proof.Machine

/-- `next` (R11): the address after the instruction. -/
def next (i : Instr) (s : State) : Word := s.pc + BitVec.ofNat 16 (encode i).length

/-- `i` is encoded by `bytes` and costs `n` cycles in every state. -/
def codedAs (i : Instr) (bytes : List Byte) (n : Nat) : Prop :=
  encode i = bytes ∧ ∀ s, cycles i s = n

/-- Executing `i` in `s` answers `t`. -/
def answers (i : Instr) (s t : State) : Prop := exec i s = .next t

/-- Every storage cell but the one `addr` names in `s` reads in `t` as in `s`. -/
def storesOnlyAt (s t : State) (addr : Word) : Prop :=
  ∀ cell, cell ≠ s.cellAt addr → t.readCell cell = s.readCell cell

/-- Every storage cell but those `addr` and `addr'` name in `s` reads in `t` as in `s`. -/
def storesOnlyAt2 (s t : State) (addr addr' : Word) : Prop :=
  ∀ cell, cell ≠ s.cellAt addr → cell ≠ s.cellAt addr' → t.readCell cell = s.readCell cell

/-- `v` is the byte listed at `i` in `m`, or `d` where none is listed. -/
def entryOr (m : Memory) (i : Nat) (d v : Byte) : Prop :=
  (i, v) ∈ m ∨ (∀ w, (i, w) ∉ m) ∧ v = d

/-- The addresses of DIV, TIMA, TMA, TAC, IF and IE (R33-R38). -/
def coreRegisters : List Nat := [0xFF04, 0xFF05, 0xFF06, 0xFF07, 0xFF0F, 0xFFFF]

/-- Encoding, length and cycles of the nine forms of the ALU operation of code `y` (R96, R110). -/
def aluForms (op : AluOp) (y : Nat) : Prop :=
  (∀ z : Fin 8,
    codedAs (Form.alu op (.op (operand8OfCode z))) [BitVec.ofNat 8 (0x80 + 8 * y + z.val)]
      (if z = 6 then 8 else 4)) ∧
  ∀ n, codedAs (Form.alu op (.imm n)) [BitVec.ofNat 8 (0xC6 + 8 * y), n] 8

/-- A after `add8(A, v, c)`, with its flags (R111). -/
def afterAdd (op : AluOp) (src : Src) (s : State) (c : Nat) : State :=
  let a := s.regs.a.toNat
  let v := (s.srcValue src).toNat
  { s with
    pc := next (Form.alu op src) s
    regs.a := BitVec.ofNat 8 (a + v + c)
    flags :=
      { z := decide ((a + v + c) % 0x100 = 0)
        n := false
        h := decide (a % 16 + v % 16 + c > 0xF)
        c := decide (a + v + c > 0xFF) } }

/-- The flags of `sub8(A, v, c)` (R111). -/
def subFlags (a v c : Nat) : Flags :=
  { z := decide (((a : Int) - v - c) % 0x100 = 0)
    n := true
    h := decide (a % 16 < v % 16 + c)
    c := decide (a < v + c) }

/-- A after `sub8(A, v, c)`, with its flags (R111). -/
def afterSub (op : AluOp) (src : Src) (s : State) (c : Nat) : State :=
  let a := s.regs.a.toNat
  let v := (s.srcValue src).toNat
  { s with
    pc := next (Form.alu op src) s
    regs.a := BitVec.ofInt 8 ((a : Int) - v - c)
    flags := subFlags a v c }

/-- A after a logic operation giving `r`, H forced to `h` (R116-R118). -/
def afterLogic (op : AluOp) (src : Src) (s : State) (r : Byte) (h : Bool) : State :=
  { s with
    pc := next (Form.alu op src) s
    regs.a := r
    flags := { z := decide (r.toNat = 0), n := false, h := h, c := false } }

/-- The operand `o` written with `v`, the flags with `f`, PC at `next`: how INC, DEC and the CB
operations leave the state. -/
def afterWrite (i : Instr) (s : State) (o : Operand8) (v : Byte) (f : Flags) : State :=
  { (({ s with pc := next i s } : State).writeOp o v) with flags := f }

/-- Writing `o` stores at most at HL. -/
def storesOnlyOperand (o : Operand8) (s t : State) : Prop :=
  match o with
  | .reg _ => ∀ cell, t.readCell cell = s.readCell cell
  | .memHL => storesOnlyAt s t s.hl

/-- The value of a two-digit decimal (BCD) byte. -/
def decimal (v : Byte) : Nat := 10 * (v.toNat / 16) + v.toNat % 16

/-- Both nibbles are decimal digits. -/
def isDecimal (v : Byte) : Prop := v.toNat / 16 ≤ 9 ∧ v.toNat % 16 ≤ 9

/-- The result of a rotate or shift and the bit shifted off, as arithmetic (R155-R162). -/
def rotated (op : RotOp) (c v : Nat) : Nat × Nat :=
  match op with
  | .rlc => ((2 * v + v / 128) % 256, v / 128)
  | .rrc => (v / 2 + 128 * (v % 2), v % 2)
  | .rl => ((2 * v + c) % 256, v / 128)
  | .rr => (v / 2 + 128 * c, v % 2)
  | .sla => (2 * v % 256, v / 128)
  | .sra => (v / 2 + 128 * (v / 128), v % 2)
  | .swap => (16 * (v % 16) + v / 16, 0)
  | .srl => (v / 2, v % 2)

/-- The condition holds (R95). -/
def taken (f : Flags) (cc : Cond) : Bool :=
  match cc with
  | .nz => decide (f.z = false)
  | .z => decide (f.z = true)
  | .nc => decide (f.c = false)
  | .c => decide (f.c = true)

/-- The condition codes in order (R95). -/
def condCode (cc : Cond) : Nat :=
  match cc with
  | .nz => 0
  | .z => 1
  | .nc => 2
  | .c => 3

/-- The pair codes in order (R94). -/
def pairCode (p : Pair) : Nat :=
  match p with
  | .bc => 0
  | .de => 1
  | .hl => 2
  | .sp => 3

/-- The stack pair codes in order (R94). -/
def stackCode (p : StackPair) : Nat :=
  match p with
  | .bc => 0
  | .de => 1
  | .hl => 2
  | .af => 3

/-- The register codes (R93). -/
def regCode (r : Reg8) : Nat :=
  match r with
  | .b => 0
  | .c => 1
  | .d => 2
  | .e => 3
  | .h => 4
  | .l => 5
  | .a => 7

/-- The readers and writers of the register codes act on the fields of those names, code 6 on the byte
at HL, and a pair is its high register over its low one (R93, R94, R110). -/
def operandsNameFields (s : State) : Prop :=
  (s.reg .b = s.regs.b ∧ s.reg .c = s.regs.c ∧ s.reg .d = s.regs.d ∧ s.reg .e = s.regs.e ∧
    s.reg .h = s.regs.h ∧ s.reg .l = s.regs.l ∧ s.reg .a = s.regs.a) ∧
  (∀ r, s.readOp (.reg r) = s.reg r) ∧ s.readOp .memHL = s.busRead s.hl ∧
  (∀ o, s.srcValue (.op o) = s.readOp o) ∧ (∀ n, s.srcValue (.imm n) = n) ∧
  (∀ v, s.writeOp (.reg .b) v = { s with regs.b := v } ∧
    s.writeOp (.reg .c) v = { s with regs.c := v } ∧
    s.writeOp (.reg .d) v = { s with regs.d := v } ∧
    s.writeOp (.reg .e) v = { s with regs.e := v } ∧
    s.writeOp (.reg .h) v = { s with regs.h := v } ∧
    s.writeOp (.reg .l) v = { s with regs.l := v } ∧
    s.writeOp (.reg .a) v = { s with regs.a := v } ∧
    s.writeOp .memHL v = s.busWrite s.hl v) ∧
  s.bc.toNat = 256 * s.regs.b.toNat + s.regs.c.toNat ∧
  s.de.toNat = 256 * s.regs.d.toNat + s.regs.e.toNat ∧
  s.hl.toNat = 256 * s.regs.h.toNat + s.regs.l.toNat ∧
  s.pair .bc = s.bc ∧ s.pair .de = s.de ∧ s.pair .hl = s.hl ∧ s.pair .sp = s.sp

/-- The two bytes a PUSH of `p` writes, high then low; for AF the low one is the packed flags
(R21, R22, R200). -/
def stackBytes (s : State) (p : StackPair) : Byte × Byte :=
  match p with
  | .bc => (s.regs.b, s.regs.c)
  | .de => (s.regs.d, s.regs.e)
  | .hl => (s.regs.h, s.regs.l)
  | .af =>
    (s.regs.a,
      BitVec.ofNat 8 (128 * s.flags.z.toNat + 64 * s.flags.n.toNat + 32 * s.flags.h.toNat +
        16 * s.flags.c.toNat))

/-- Two bytes pushed: SP down, the high byte, SP down, the low byte (R200). -/
def pushed (s : State) (hi lo : Byte) : State :=
  let s1 := ({ s with sp := s.sp - 1 } : State).busWrite (s.sp - 1) hi
  ({ s1 with sp := s.sp - 2 } : State).busWrite (s.sp - 2) lo

/-- The registers after `lo` and `hi` are popped into `p`; AF keeps bits 7..4 of `lo` (R201). -/
def poppedInto (s : State) (p : StackPair) (hi lo : Byte) : State :=
  match p with
  | .bc => { s with regs.b := hi, regs.c := lo }
  | .de => { s with regs.d := hi, regs.e := lo }
  | .hl => { s with regs.h := hi, regs.l := lo }
  | .af =>
    { s with
      regs.a := hi
      flags :=
        { z := decide (lo.toNat / 128 % 2 = 1)
          n := decide (lo.toNat / 64 % 2 = 1)
          h := decide (lo.toNat / 32 % 2 = 1)
          c := decide (lo.toNat / 16 % 2 = 1) } }

/-- One TIMA increment, on (TIMA, IF) (R252). -/
def timaTick (tma : Byte) (x : Byte × Byte) : Byte × Byte :=
  if x.1 = 0xFF then (tma, x.2 ||| 0x04) else (x.1 + 1, x.2)

/-- The state a step has reached when its interrupt check begins: the timer advanced by `c`, the
external request taken, and after an instruction the EI delay counted down (R240). -/
def beforeCheck (executed : Bool) (c : Nat) (t : State) : State :=
  let v := timerAdvance c t
  { v with
    irq :=
      { ime := v.irq.ime || (executed && decide (v.irq.eiDelay = 1))
        eiDelay := if executed then v.irq.eiDelay - 1 else v.irq.eiDelay
        ifr := v.irq.ifr ||| v.extDraw
        ie := v.irq.ie }
    env :=
      { resets := v.env.resets, draws := v.env.draws + 1, script := v.env.script.tail } }

end Sys2Proof.Spec

open Sys2Proof Sys2Proof.Machine Sys2Proof.Spec

/-! Encoding. -/

/-- Words written out from the maps R99 and R100, one or more of each family. -/
def Obligations.SampleWordsDecode : Prop :=
  decode [0x80] = .ok (.add_a_b, []) ∧ decode [0xFE, 0x40] = .ok (.cp_n8 0x40, []) ∧
  decode [0x34] = .ok (.inc_mHL, []) ∧ decode [0x39] = .ok (.add_hl_sp, []) ∧
  decode [0xE8, 0xFF] = .ok (.add_sp_e8 0xFF, []) ∧ decode [0x17] = .ok (.rla, []) ∧
  decode [0xCB, 0x36] = .ok (.swap_mHL, []) ∧ decode [0xCB, 0x7C] = .ok (.bit_7_h, []) ∧
  decode [0xCB, 0x9E] = .ok (.res_3_mHL, []) ∧ decode [0x76] = .ok (.halt, []) ∧
  decode [0x75] = .ok (.ld_mHL_l, []) ∧ decode [0x08, 0x00, 0xC2] = .ok (.ld_mN16_sp 0xC200, []) ∧
  decode [0xF5] = .ok (.push_af, []) ∧ decode [0x38, 0x10] = .ok (.jr_c_e8 0x10, []) ∧
  decode [0xCD, 0x34, 0x12] = .ok (.call_n16 0x1234, []) ∧ decode [0xD9] = .ok (.reti, []) ∧
  decode [0xFF] = .ok (.rst_38, []) ∧ decode [0x10, 0x00] = .ok (.stop 0, []) ∧
  decode [0xDD] = .ok (.illegal_dd, []) ∧ decode [0xCB] = .error (.truncated 0xCB) ∧
  decode [] = .error .noByte

/-- Decoding the bytes of any instruction, whatever follows them, gives it back with every operand
(R90, R99, R100). -/
def Obligations.EncodeThenDecode : Prop :=
  ∀ (i : Instr) (rest : List Byte), decode (encode i ++ rest) = .ok (i, rest)

/-- Encoding what any three bytes decode to gives back its bytes, as many as the first byte says:
each word has one meaning; and decoding the three as a list answers that instruction and the bytes
left over (R90, R91, R103, R236). -/
def Obligations.DecodeThenEncode : Prop :=
  ∀ b0 b1 b2 : Byte,
    encode (decodeBytes b0 b1 b2) = [b0, b1, b2].take (lengthOfFirst b0) ∧
    decode [b0, b1, b2] =
      .ok (decodeBytes b0 b1 b2, [b0, b1, b2].drop (lengthOfFirst b0))

/-- Exactly the eleven primary opcodes of R101 decode to no well-formed instruction; every CB word
decodes to a well-formed one (the spec's own D1, D3). That an unused slot is a constructor that is not well-formed is the
model's choice (log entry 16). -/
def Obligations.UnusedOpcodesAreEleven : Prop :=
  ∀ b0 b1 b2 : Byte,
    wellFormed (decodeBytes b0 b1 b2) = false ↔
      b0 ∈ ([0xD3, 0xDB, 0xDD, 0xE3, 0xE4, 0xEB, 0xEC, 0xED, 0xF4, 0xFC, 0xFD] : List Byte)

/-! The step. -/

/-- When the bytes at PC decode to a well-formed instruction, the step of a running core that is not
halted is its execution, then the timer advanced by its cycles, the external request (of bits 0, 1,
3, 4 only), the EI delay and the interrupt check (R240, R247). Where the request and the EI delay
stand in that order is the spec's own decision D25; that the request is the script's next byte or
else the free value at the counter `draws`, and that a draw uses it up, is the model's choice (log
entry 2). -/
def Obligations.StepRunsDecodedInstruction : Prop :=
  (∀ (s t : State) (i : Instr) (rest : List Byte),
    s.running = true → s.halted = false →
    decode [s.busRead s.pc, s.busRead (s.pc + 1), s.busRead (s.pc + 2)] = .ok (i, rest) →
    wellFormed i = true → exec i s = .next t →
    s.fetched = i ∧
    step s = .next (interruptCheck (cycles i s) (beforeCheck true (cycles i s) t)).2 ∧
    stepInstruction s =
      .next (interruptCheck (cycles i s) (beforeCheck true (cycles i s) t))) ∧
  ∀ s : State, s.extDraw &&& 0xE4 = 0 ∧
    (∀ e rest, s.env.script = e :: rest → s.extDraw = e &&& 0x1B) ∧
    (s.env.script = [] → s.extDraw = Config.extIrq s.env.draws &&& 0x1B)

/-- A core that is not running takes no step: nothing changes (R31, R240). The host's stop clears
`running` and nothing else (R266). `step` answers the state of `stepInstruction` (R263). The cycle
budget loop steps while the budget is above 0 and the core runs, takes each step's cycles off it, and
ends at a fault; what the last step overshoots is dropped (R262), the spec's own D28. The host's
operations as functions of the state are the spec's own D34 and log entry 13; that `step` answers the
unchanged state of a stopped core, not a fault outcome, is the model's choice (log entry 4). -/
def Obligations.StoppedCoreStays : Prop :=
  (∀ s : State, s.running = false →
    step s = .next s ∧ stepInstruction s = .next (.stopped, s) ∧
    ∀ n, runCycleBudget n s = .next s) ∧
  (∀ s : State, hostStop s = { s with running := false }) ∧
  (∀ s : State, ∃ r t, stepInstruction s = .next (r, t) ∧ step s = .next t) ∧
  ∀ (s : State) (n : Nat), s.running = true →
    runCycleBudget 0 s = .next s ∧
    (0 < n → ∀ c t, stepInstruction s = .next (.completed c, t) →
      runCycleBudget n s = runCycleBudget (n - c) t) ∧
    (0 < n → ∀ r t, stepInstruction s = .next (.faulted r, t) → runCycleBudget n s = .next t)

/-- A halted tick fetches nothing: it charges 4 cycles, advances the timer by 4, leaves eiDelay, and
makes the check (R232, R240). The order timer, request, check is the spec's own decision D25; how
`beforeCheck` draws the request and counts the draw is the model's choice (log entry 2). -/
def Obligations.HaltedTickOnlyTicks : Prop :=
  ∀ s : State, s.running = true → s.halted = true →
    stepInstruction s = .next (interruptCheck 4 (beforeCheck false 4 s)) ∧
    ((beforeCheck false 4 s).pending = none →
      ∃ t, step s = .next t ∧ t.halted = true ∧ t.pc = s.pc ∧ t.sp = s.sp ∧ t.regs = s.regs ∧
        t.flags = s.flags ∧ t.irq.eiDelay = s.irq.eiDelay ∧ t.irq.ime = s.irq.ime ∧
        t.mem = s.mem ∧ t.cart = s.cart ∧ t.bank = s.bank)

/-- The eleven unused opcodes: executing one, and so the step that fetches one, stops the core,
clears IME, records (ILLEGAL_OPCODE, pc, opcode), and changes nothing else: PC stays, no cycles, no
timer. The faulted core's next step changes nothing (R237, R241, R242; the spec's own D3 and D27).
That the fault is a next state of `exec` and `step` is the model's choice (log entry 5). -/
def Obligations.IllegalOpcodeFaults : Prop :=
  ∀ p ∈ ([(.illegal_d3, 0xD3), (.illegal_db, 0xDB), (.illegal_dd, 0xDD), (.illegal_e3, 0xE3),
      (.illegal_e4, 0xE4), (.illegal_eb, 0xEB), (.illegal_ec, 0xEC), (.illegal_ed, 0xED),
      (.illegal_f4, 0xF4), (.illegal_fc, 0xFC), (.illegal_fd, 0xFD)] : List (Instr × Byte)),
    ∀ s : State,
      let t : State :=
        { s with
          running := false
          irq.ime := false
          fault := some { reason := .illegalOpcode, pc := s.pc, op := p.2 } }
      exec p.1 s = .next t ∧ step t = .next t ∧
      (s.running = true → s.halted = false → s.busRead s.pc = p.2 →
        stepInstruction s =
          .next (.faulted { reason := .illegalOpcode, pc := s.pc, op := p.2 }, t))

/-! Reset and the host. -/

/-- What reset leaves: the values of R44 (the spec's own decisions D4, D7, D8, D26 and D27 but for
PC), ROM as it was, the family that `FAMILY_OF` gives for ROM byte 0x147 (R65; its byte values are the
spec's own D12), no byte of memory or cartridge RAM written since, so that each reads as its INIT_MEM draw (D9). The
model's choices: the draw is `Config.initMem` at the reset count and the address (log entry 1), a
reset adds one to that count and keeps the request script and counter (log entry 14), and the ROM of
`State.reset`, which is such a reset, is a blank image of 0x8000 bytes (log entry 3). -/
def Obligations.ResetState : Prop :=
  (∀ s : State,
    hostReset s =
      { regs := { a := 0x01, b := 0x00, c := 0x13, d := 0x00, e := 0xD8, h := 0x01, l := 0x4D }
        flags := { z := true, n := false, h := true, c := true }
        sp := 0xFFFE
        pc := 0x0100
        irq := { ime := false, eiDelay := 0, ifr := 0, ie := 0 }
        halted := false
        running := true
        fault := none
        timer :=
          { div := 0, tima := 0, tma := 0, tac := 0, divCounter := 0, scaler := .by1024,
            timaCounter := 1024 }
        bank := { romBank := 1, ramBank := 0, mbcMode := false, ramEnabled := false }
        cart :=
          { rom := s.cart.rom
            romLen := s.cart.romLen
            ram := []
            family := familyOf (romRead s.cart.rom 0x147)
            diag := decide (familyOf (romRead s.cart.rom 0x147) = .unsupported) }
        mem := []
        env :=
          { resets := s.env.resets + 1, draws := s.env.draws, script := s.env.script } }) ∧
  (∀ t : Byte,
    familyOf t =
      (if t = 0x00 then .romOnly
      else if t ∈ ([0x01, 0x02, 0x03] : List Byte) then .mbc1
      else if t ∈ ([0x05, 0x06] : List Byte) then .mbc2
      else if t ∈ ([0x0F, 0x10, 0x11, 0x12, 0x13] : List Byte) then .mbc3
      else if t ∈ ([0x19, 0x1A, 0x1B] : List Byte) then .mbc5
      else .unsupported)) ∧
  State.reset =
    { hostReset State.reset with env := { resets := 0, draws := 0, script := [] } } ∧
  State.reset.cart.romLen = 0x8000 ∧ (∀ i, romRead State.reset.cart.rom i = 0) ∧
  State.reset.f = 0xB0 ∧ State.reset.pc = 0x0100 ∧ State.reset.sp = 0xFFFE ∧
  ∀ a, 0xC000 ≤ a → a < 0xE000 → State.reset.readFlat a = Config.initMem 0 a

/-- `loadRom` is refused while running and for a short image; else the ROM is the image, byte for
byte, and the whole state is that of `hostReset` (`ResetState` says what it is, field by field) over
that ROM, the family being that of byte 0x147 (R282, R280, R65). D11, D12 and D30 are the spec's own decisions,
the refusal's form and what a reset does with the draws the model's (log entries 13, 14). -/
def Obligations.LoadRomReplacesImage : Prop :=
  ∀ (bytes : List Byte) (s : State),
    (s.running = true → loadRom bytes s = .refused .loadWhileRunning) ∧
    (s.running = false → bytes.length < 0x4000 → loadRom bytes s = .refused .imageTooShort) ∧
    (s.running = false → 0x4000 ≤ bytes.length →
      ∃ t, loadRom bytes s = .next t ∧
        t = hostReset { s with cart.rom := t.cart.rom, cart.romLen := bytes.length } ∧
        t.cart.romLen = bytes.length ∧
        (∀ i (h : i < bytes.length), romRead t.cart.rom i = bytes[i]) ∧
        t.cart.family = familyOf (bytes[0x147]?.getD 0) ∧ t.running = true ∧ t.pc = 0x0100 ∧
        t.fault = none ∧ t.bank.romBank = 1 ∧ t.cart.ram = [] ∧ t.mem = [])

/-! The bus. -/

/-- The read decode, in the order of R53, as a value and as the cell an address names. DIV, TIMA, TMA,
TAC, IF and IE read through the bus at their addresses (R33-R38, R62, R80); every other byte of the
flat array and of cartridge RAM reads as the byte listed for it, else as its INIT_MEM draw (R42; D9,
log entry 1), and an unlisted ROM byte as 0x00 (log entries 3, 12). The spec's own decisions: disabled
RAM reads as 0xFF (D5), the RAM index (D10, D35), reserved I/O as plain storage (D29). -/
def Obligations.BusReadDecodes : Prop :=
  (∀ (s : State) (a : Word),
    s.busRead a =
      (if a.toNat < 0x4000 then romRead s.cart.rom a.toNat
      else if a.toNat < 0x8000 then
        romRead s.cart.rom (((s.bank.romBank.toNat - 1) * 0x4000 + a.toNat) % s.cart.romLen)
      else if 0xA000 ≤ a.toNat ∧ a.toNat < 0xC000 then
        if s.bank.ramEnabled then s.readCell (.ram (s.ramIndex a.toNat)) else 0xFF
      else if 0xE000 ≤ a.toNat ∧ a.toNat < 0xFE00 then s.readFlat (a.toNat - 0x2000)
      else s.readFlat a.toNat) ∧
    s.busRead a = s.readCell (s.cellAt a) ∧
    s.cellAt a =
      (if a.toNat < 0x4000 then .rom a.toNat
      else if a.toNat < 0x8000 then
        .rom (((s.bank.romBank.toNat - 1) * 0x4000 + a.toNat) % s.cart.romLen)
      else if 0xA000 ≤ a.toNat ∧ a.toNat < 0xC000 then
        if s.bank.ramEnabled then .ram (s.ramIndex a.toNat) else .openBus
      else if 0xE000 ≤ a.toNat ∧ a.toNat < 0xFE00 then .flat (a.toNat - 0x2000)
      else .flat a.toNat)) ∧
  ∀ s : State,
    (s.busRead 0xFF04 = s.timer.div ∧ s.busRead 0xFF05 = s.timer.tima ∧
      s.busRead 0xFF06 = s.timer.tma ∧ s.busRead 0xFF07 = s.timer.tac ∧
      s.busRead 0xFF0F = s.irq.ifr ∧ s.busRead 0xFFFF = s.irq.ie) ∧
    s.readCell .openBus = 0xFF ∧
    ∀ i : Nat,
      s.readCell (.rom i) = romRead s.cart.rom i ∧
      entryOr s.cart.rom i 0 (romRead s.cart.rom i) ∧
      entryOr s.cart.ram i (Config.initRam s.env.resets i) (s.readCell (.ram i)) ∧
      s.readCell (.flat i) = s.readFlat i ∧
      (i ∉ coreRegisters → entryOr s.mem i (Config.initMem s.env.resets i) (s.readFlat i))

/-- A write below 0x8000 changes the bank registers and nothing else, ROM least of all (R63). -/
def Obligations.LowWritesAreBankCommands : Prop :=
  ∀ (s : State) (a : Word) (v : Byte), a.toNat < 0x8000 →
    (∃ b, s.busWrite a v = { s with bank := b }) ∧
    ∀ cell, (s.busWrite a v).readCell cell = s.readCell cell

/-- No step changes the ROM, its length, the family or the diagnostic: "ROM is immutable during
execution" (R63, R41). -/
def Obligations.StepKeepsCartridge : Prop :=
  ∀ s t : State, step s = .next t →
    t.cart.rom = s.cart.rom ∧ t.cart.romLen = s.cart.romLen ∧
    t.cart.family = s.cart.family ∧ t.cart.diag = s.cart.diag

/-- A byte stored above the bank-control range, not to DIV and not to disabled cartridge RAM, reads
back as stored, at its address and at every address that names the same cell (R57, R59, R62, R82);
TAC too, by R60 and R38, though R201's proviso lists it as not read back (log entry 21). Whole bytes,
also of MBC2 RAM and of reserved I/O, are the spec's own D31, D29, D18; the RAM index D10 and D35 (log
entry 9). -/
def Obligations.StoreThenLoadReturnsValue : Prop :=
  ∀ (s : State) (a b : Word) (v : Byte), 0x8000 ≤ a.toNat → a ≠ 0xFF04 →
    (0xA000 ≤ a.toNat → a.toNat < 0xC000 → s.bank.ramEnabled = true) →
    s.cellAt b = s.cellAt a → (s.busWrite a v).busRead b = v

/-- What a bus write leaves alone: every other cell, the registers, flags, SP, PC, IME, eiDelay,
halted, running, the fault record, the ROM; above 0x8000 also the bank registers, so that every
address that names another cell reads as before; and but for TAC and DIV the hidden timer state
(R54, R78). -/
def Obligations.BusWriteFrame : Prop :=
  ∀ (s : State) (a : Word) (v : Byte),
    let t := s.busWrite a v
    storesOnlyAt s t a ∧
    t.regs = s.regs ∧ t.flags = s.flags ∧ t.sp = s.sp ∧ t.pc = s.pc ∧ t.irq.ime = s.irq.ime ∧
    t.irq.eiDelay = s.irq.eiDelay ∧ t.halted = s.halted ∧ t.running = s.running ∧
    t.fault = s.fault ∧ t.cart.rom = s.cart.rom ∧ t.cart.romLen = s.cart.romLen ∧
    t.env = s.env ∧
    (0x8000 ≤ a.toNat →
      t.bank = s.bank ∧ ∀ b, s.cellAt b ≠ s.cellAt a → t.busRead b = s.busRead b) ∧
    (a ≠ 0xFF04 → t.timer.divCounter = s.timer.divCounter) ∧
    (a ≠ 0xFF07 →
      t.timer.scaler = s.timer.scaler ∧ t.timer.timaCounter = s.timer.timaCounter)

/-- Echo RAM: an address of 0xE000-0xFDFF reads and writes as the address 0x2000 below (R59). -/
def Obligations.EchoAliasesWorkRam : Prop :=
  ∀ (s : State) (a : Word) (v : Byte), 0xE000 ≤ a.toNat → a.toNat < 0xFE00 →
    s.busRead a = s.busRead (a - 0x2000) ∧ s.busWrite a v = s.busWrite (a - 0x2000) v

/-- Disabled cartridge RAM reads as 0xFF, the spec's own choice of OPEN_BUS (D5, log entry 9), and
drops writes (R58). -/
def Obligations.DisabledRamReadsOpenBus : Prop :=
  ∀ (s : State) (a : Word) (v : Byte), 0xA000 ≤ a.toNat → a.toNat < 0xC000 →
    s.bank.ramEnabled = false → s.busRead a = 0xFF ∧ s.busWrite a v = s

/-- The six core registers written through the bus. A write to TAC stores it and reloads scaler and
countdown (R60); a write to DIV sets DIV to 0, whatever is written (R61), and divCounter with it, the
spec's own decision D15 (log entry 9); TIMA, TMA, IF and IE take the byte and nothing else changes
(R62, R245, R253), all eight bits of it by the spec's own D18. -/
def Obligations.TacAndDivWrites : Prop :=
  ∀ (s : State) (v : Byte),
    (∃ t, s.busWrite 0xFF07 v = t ∧ t.timer.tac = v ∧
      t.timer.scaler.cycles =
        (if v.toNat % 4 = 0 then 1024 else if v.toNat % 4 = 1 then 16
        else if v.toNat % 4 = 2 then 64 else 256) ∧
      t.timer.timaCounter = t.timer.scaler.cycles ∧
      t = { s with
        timer.tac := t.timer.tac
        timer.scaler := t.timer.scaler
        timer.timaCounter := t.timer.timaCounter }) ∧
    s.busWrite 0xFF04 v = { s with timer.div := 0, timer.divCounter := 0 } ∧
    s.busWrite 0xFF05 v = { s with timer.tima := v } ∧
    s.busWrite 0xFF06 v = { s with timer.tma := v } ∧
    s.busWrite 0xFF0F v = { s with irq.ifr := v } ∧
    s.busWrite 0xFFFF v = { s with irq.ie := v }

/-- A repeated write of the same value to the same address leaves the state as one write does (R79). -/
def Obligations.RepeatedWriteIsIdempotent : Prop :=
  ∀ (s : State) (a : Word) (v : Byte), (s.busWrite a v).busWrite a v = s.busWrite a v

/-! The bank controller. -/

/-- MBC1's commands as arithmetic on the bank numbers (R67). That the low write keeps romBank bits 6-5
is the spec's own decision D14 (log entry 9). -/
def Obligations.Mbc1Commands : Prop :=
  ∀ (s : State) (a : Word) (v : Byte), s.cart.family = .mbc1 → a.toNat < 0x8000 →
    let b := s.bank
    ∃ c, s.busWrite a v = { s with bank := c } ∧
      (a.toNat ≤ 0x1FFF → c = { b with ramEnabled := decide (v.toNat % 16 = 0xA) }) ∧
      (0x2000 ≤ a.toNat → a.toNat ≤ 0x3FFF →
        c = { b with romBank := c.romBank } ∧
        c.romBank.toNat =
          32 * (b.romBank.toNat / 32 % 4) + (if v.toNat % 32 = 0 then 1 else v.toNat % 32)) ∧
      (0x4000 ≤ a.toNat → a.toNat ≤ 0x5FFF → b.mbcMode = false →
        c = { b with romBank := c.romBank } ∧
        c.romBank.toNat = 32 * (v.toNat % 4) + b.romBank.toNat % 32) ∧
      (0x4000 ≤ a.toNat → a.toNat ≤ 0x5FFF → b.mbcMode = true →
        c = { b with ramBank := c.ramBank } ∧ c.ramBank.toNat = v.toNat % 4) ∧
      (0x6000 ≤ a.toNat → c = { b with mbcMode := decide (v.toNat % 2 = 1) })

/-- The commands of MBC2, MBC3 and MBC5 (R68-R71). That an MBC2 write at 0x0000-0x1FFF with address
bit 8 set selects the ROM bank is what R68 marks as derived from the order of its conditions; a test
vector of the spec says otherwise, and the model follows the rule (log entry 20). MBC3's enable
criterion is the spec's own decision D13, that MBC5 takes no command from 0x6000 up D31 (log entry
9). -/
def Obligations.OtherBankCommands : Prop :=
  ∀ (s : State) (a : Word) (v : Byte), a.toNat < 0x8000 →
    let b := s.bank
    let enable : Bank := { b with ramEnabled := decide (v.toNat % 16 = 0xA) }
    ∃ c, s.busWrite a v = { s with bank := c } ∧
      (s.cart.family = .mbc2 →
        if a.toNat ≤ 0x1FFF ∧ a.toNat / 256 % 2 = 0 then c = enable
        else if a.toNat ≤ 0x3FFF ∧ a.toNat / 256 % 2 = 1 then
          c = { b with romBank := c.romBank } ∧
          c.romBank.toNat = (if v.toNat % 32 = 0 then 1 else v.toNat % 32)
        else c = b) ∧
      (s.cart.family = .mbc3 →
        if a.toNat ≤ 0x1FFF then c = enable
        else if a.toNat ≤ 0x3FFF then
          c = { b with romBank := c.romBank } ∧
          c.romBank.toNat = (if v.toNat % 128 = 0 then 1 else v.toNat % 128)
        else if a.toNat ≤ 0x5FFF ∧ v.toNat < 8 then
          c = { b with ramBank := c.ramBank } ∧ c.ramBank.toNat = v.toNat
        else c = b) ∧
      (s.cart.family = .mbc5 →
        if a.toNat ≤ 0x1FFF then c = enable
        else if a.toNat ≤ 0x2FFF then
          c = { b with romBank := c.romBank } ∧
          c.romBank.toNat =
            (if b.romBank.toNat / 256 = 0 ∧ v.toNat = 0 then 1
            else 256 * (b.romBank.toNat / 256) + v.toNat)
        else if a.toNat ≤ 0x3FFF then
          c = { b with romBank := c.romBank } ∧
          c.romBank.toNat =
            (if v.toNat % 2 = 0 ∧ b.romBank.toNat % 256 = 0 then 1
            else 256 * (v.toNat % 2) + b.romBank.toNat % 256)
        else if a.toNat ≤ 0x5FFF then
          c = { b with ramBank := c.ramBank } ∧ c.ramBank.toNat = v.toNat % 16
        else c = b)

/-- ROM-only and unsupported cartridges take no command (R66, R72), and the RAM bank in effect is
gated by the mode for MBC1 alone (R73), which is the spec's own decision D35; the reduction of the RAM
index modulo 0x8000 is D10 (R57; both log entry 9). -/
def Obligations.RamBankInEffect : Prop :=
  ∀ s : State,
    ((s.cart.family = .romOnly ∨ s.cart.family = .unsupported) →
      s.effRamBank = 0 ∧ ∀ (a : Word) (v : Byte), a.toNat < 0x8000 → s.busWrite a v = s) ∧
    (s.cart.family = .mbc1 →
      s.effRamBank = s.bank.ramBank.toNat * (if s.bank.mbcMode then 1 else 0)) ∧
    (s.cart.family = .mbc2 → s.effRamBank = 0) ∧
    ((s.cart.family = .mbc3 ∨ s.cart.family = .mbc5) → s.effRamBank = s.bank.ramBank.toNat) ∧
    ∀ a, s.ramIndex a = ((a - 0xA000) + s.effRamBank * 0x2000) % 0x8000

/-! 8-bit arithmetic and logic. -/

/-- ADD and ADC, all forms: A and the flags are those of the sum (R110-R113). -/
def Obligations.AddSetsSumAndFlags : Prop :=
  aluForms .add 0 ∧ aluForms .adc 1 ∧
  ∀ (src : Src) (s : State),
    answers (Form.alu .add src) s (afterAdd .add src s 0) ∧
    answers (Form.alu .adc src) s (afterAdd .adc src s (if s.flags.c then 1 else 0))

/-- SUB and SBC, all forms: A and the flags are those of the difference (R110, R111, R114, R115). -/
def Obligations.SubSetsDifferenceAndFlags : Prop :=
  aluForms .sub 2 ∧ aluForms .sbc 3 ∧
  ∀ (src : Src) (s : State),
    answers (Form.alu .sub src) s (afterSub .sub src s 0) ∧
    answers (Form.alu .sbc src) s (afterSub .sbc src s (if s.flags.c then 1 else 0))

/-- AND, XOR and OR, all forms (R110, R116-R118). -/
def Obligations.LogicSetsResultAndFlags : Prop :=
  aluForms .and 4 ∧ aluForms .xor 5 ∧ aluForms .or 6 ∧
  ∀ (src : Src) (s : State),
    let a := s.regs.a
    let v := s.srcValue src
    answers (Form.alu .and src) s (afterLogic .and src s (a &&& v) true) ∧
    answers (Form.alu .xor src) s (afterLogic .xor src s (a ^^^ v) false) ∧
    answers (Form.alu .or src) s (afterLogic .or src s (a ||| v) false)

/-- CP, all forms: the flags of SUB, A unchanged (R119). -/
def Obligations.CompareSetsFlagsOnly : Prop :=
  aluForms .cp 7 ∧
  ∀ (src : Src) (s : State),
    answers (Form.alu .cp src) s
      { s with
        pc := next (Form.alu .cp src) s
        flags := subFlags s.regs.a.toNat (s.srcValue src).toNat 0 }

/-- INC and DEC of a register or of the byte at HL: Z, N, H from the result and the old low nibble,
C kept (R120-R123). -/
def Obligations.IncDecByteKeepsCarry : Prop :=
  (∀ y : Fin 8,
    codedAs (Form.inc (operand8OfCode y)) [BitVec.ofNat 8 (0x04 + 8 * y.val)]
      (if y = 6 then 12 else 4) ∧
    codedAs (Form.dec (operand8OfCode y)) [BitVec.ofNat 8 (0x05 + 8 * y.val)]
      (if y = 6 then 12 else 4)) ∧
  ∀ (o : Operand8) (s : State),
    let old := (s.readOp o).toNat
    (∃ t, answers (Form.inc o) s t ∧ storesOnlyOperand o s t ∧
      t = afterWrite (Form.inc o) s o (BitVec.ofNat 8 (old + 1))
        { z := decide (old = 0xFF), n := false, h := decide (old % 16 = 0xF), c := s.flags.c }) ∧
    ∃ t, answers (Form.dec o) s t ∧ storesOnlyOperand o s t ∧
      t = afterWrite (Form.dec o) s o (BitVec.ofInt 8 ((old : Int) - 1))
        { z := decide (old = 1), n := true, h := decide (old % 16 = 0), c := s.flags.c }

/-- DAA as the pseudocode of R124 has it, in integers. -/
def Obligations.DaaAdjusts : Prop :=
  codedAs .daa [0x27] 4 ∧
  ∀ s : State,
    let a : Int := s.regs.a.toNat
    let lowOff := s.flags.h || (!s.flags.n && decide (a % 16 > 9))
    let highOff := s.flags.c || (!s.flags.n && decide (a > 0x99))
    let adjust : Int := (if highOff then 0x60 else 0) + (if lowOff then 0x06 else 0)
    let r : Byte := BitVec.ofInt 8 (if s.flags.n then a - adjust else a + adjust)
    answers .daa s
      { s with
        pc := next .daa s
        regs.a := r
        flags := { z := decide (r.toNat = 0), n := s.flags.n, h := false, c := highOff } }

/-- The closure property of R124: DAA after ADD or SUB of decimal operands gives the decimal sum or
difference, C telling the overflow or borrow. -/
def Obligations.DaaClosesDecimalArithmetic : Prop :=
  ∀ (src : Src) (s : State), isDecimal s.regs.a → isDecimal (s.srcValue src) →
    let x := decimal s.regs.a
    let y := decimal (s.srcValue src)
    (∃ t u, answers (Form.alu .add src) s t ∧ answers .daa t u ∧ isDecimal u.regs.a ∧
      decimal u.regs.a + (if u.flags.c then 100 else 0) = x + y) ∧
    ∃ t u, answers (Form.alu .sub src) s t ∧ answers .daa t u ∧ isDecimal u.regs.a ∧
      decimal u.regs.a + y = x + (if u.flags.c then 100 else 0) ∧
      (u.flags.c = true ↔ x < y)

/-- CPL, SCF, CCF (R125-R127). -/
def Obligations.ComplementAndCarryFlagOps : Prop :=
  codedAs .cpl [0x2F] 4 ∧ codedAs .scf [0x37] 4 ∧ codedAs .ccf [0x3F] 4 ∧
  ∀ s : State,
    answers .cpl s
      { s with
        pc := next .cpl s
        regs.a := s.regs.a ^^^ 0xFF
        flags := { z := s.flags.z, n := true, h := true, c := s.flags.c } } ∧
    answers .scf s
      { s with
        pc := next .scf s
        flags := { z := s.flags.z, n := false, h := false, c := true } } ∧
    answers .ccf s
      { s with
        pc := next .ccf s
        flags := { z := s.flags.z, n := false, h := false, c := !s.flags.c } }

/-! 16-bit arithmetic. -/

/-- ADD HL,rr: HL is the sum, H is the carry out of bit 11, C out of bit 15, Z kept (R140, R141). -/
def Obligations.AddPairToHL : Prop :=
  ∀ (p : Pair),
    codedAs (Form.addHL p) [BitVec.ofNat 8 (0x09 + 16 * pairCode p)] 8 ∧
    ∀ s : State,
      let a := s.hl.toNat
      let b := (s.pair p).toNat
      answers (Form.addHL p) s
        { s with
          pc := next (Form.addHL p) s
          regs.h := BitVec.ofNat 8 ((a + b) / 256)
          regs.l := BitVec.ofNat 8 (a + b)
          flags :=
            { z := s.flags.z
              n := false
              h := decide (a % 0x1000 + b % 0x1000 > 0xFFF)
              c := decide (a + b > 0xFFFF) } }

/-- INC rr and DEC rr: the pair is one more or one less, nothing else changes (R142, R143). -/
def Obligations.IncDecPairKeepsFlags : Prop :=
  ∀ (p : Pair),
    codedAs (Form.incPair p) [BitVec.ofNat 8 (0x03 + 16 * pairCode p)] 8 ∧
    codedAs (Form.decPair p) [BitVec.ofNat 8 (0x0B + 16 * pairCode p)] 8 ∧
    ∀ s : State,
      (∃ t, answers (Form.incPair p) s t ∧
        (∀ q, t.pair q = if q = p then BitVec.ofNat 16 ((s.pair p).toNat + 1) else s.pair q) ∧
        t = { s with pc := next (Form.incPair p) s, sp := t.sp, regs := t.regs } ∧
        t.regs.a = s.regs.a) ∧
      ∃ t, answers (Form.decPair p) s t ∧
        (∀ q, t.pair q =
          if q = p then BitVec.ofInt 16 ((s.pair p).toNat - 1) else s.pair q) ∧
        t = { s with pc := next (Form.decPair p) s, sp := t.sp, regs := t.regs } ∧
        t.regs.a = s.regs.a

/-- ADD SP,e8 and LD HL,SP+e8: the signed sum; H and C from the unsigned add of the low bytes; Z and N
clear (R144, R145). -/
def Obligations.SignedOffsetFromSP : Prop :=
  ∀ e : Byte,
    codedAs (.add_sp_e8 e) [0xE8, e] 16 ∧ codedAs (.ld_hl_sp_e8 e) [0xF8, e] 12 ∧
    ∀ s : State,
      let sum : Word :=
        BitVec.ofInt 16
          ((s.sp.toNat : Int) + if e.toNat < 0x80 then (e.toNat : Int) else e.toNat - 0x100)
      let f : Flags :=
        { z := false
          n := false
          h := decide (s.sp.toNat % 16 + e.toNat % 16 > 0xF)
          c := decide (s.sp.toNat % 256 + e.toNat > 0xFF) }
      answers (.add_sp_e8 e) s { s with pc := next (.add_sp_e8 e) s, sp := sum, flags := f } ∧
      answers (.ld_hl_sp_e8 e) s
        { s with
          pc := next (.ld_hl_sp_e8 e) s
          regs.h := hiByte sum
          regs.l := loByte sum
          flags := f }

/-! Rotates, shifts and bits. -/

/-- RLCA, RRCA, RLA, RRA: A rotated, C the bit shifted off, Z, N and H clear (R151-R154). -/
def Obligations.RotateAClearsZero : Prop :=
  ∀ q ∈ ([(.rlca, .rlc, 0x07), (.rrca, .rrc, 0x0F), (.rla, .rl, 0x17), (.rra, .rr, 0x1F)] :
      List (Instr × RotOp × Byte)),
    codedAs q.1 [q.2.2] 4 ∧
    ∀ s : State,
      let r := rotated q.2.1 (if s.flags.c then 1 else 0) s.regs.a.toNat
      answers q.1 s
        { s with
          pc := next q.1 s
          regs.a := BitVec.ofNat 8 r.1
          flags := { z := false, n := false, h := false, c := decide (r.2 = 1) } }

/-- The CB rotates and shifts of a register or the byte at HL: Z from the result, C the bit shifted
off, N and H clear (R150, R155-R162). -/
def Obligations.RotateSetsZeroAndCarry : Prop :=
  (∀ y z : Fin 8,
    codedAs (Form.rot (rotOfCode y) (operand8OfCode z))
      [0xCB, BitVec.ofNat 8 (8 * y.val + z.val)] (if z = 6 then 16 else 8)) ∧
  ∀ (op : RotOp) (o : Operand8) (s : State),
    let r := rotated op (if s.flags.c then 1 else 0) (s.readOp o).toNat
    ∃ t, answers (Form.rot op o) s t ∧ storesOnlyOperand o s t ∧
      t = afterWrite (Form.rot op o) s o (BitVec.ofNat 8 r.1)
        { z := decide (r.1 = 0), n := false, h := false, c := decide (r.2 = 1) }

/-- BIT: Z is the complement of the tested bit, N = 0, H = 1, C kept, the operand not written
(R170). -/
def Obligations.BitTestsComplement : Prop :=
  (∀ b z : Fin 8,
    codedAs (Form.bit b (operand8OfCode z)) [0xCB, BitVec.ofNat 8 (0x40 + 8 * b.val + z.val)]
      (if z = 6 then 12 else 8)) ∧
  ∀ (b : Fin 8) (o : Operand8) (s : State),
    answers (Form.bit b o) s
      { s with
        pc := next (Form.bit b o) s
        flags :=
          { z := decide ((s.readOp o).toNat / 2 ^ b.val % 2 = 0)
            n := false
            h := true
            c := s.flags.c } }

/-- RES and SET: the one bit is 0 or 1, every other bit and every flag is kept (R171, R172). -/
def Obligations.ResAndSetChangeOneBit : Prop :=
  (∀ b z : Fin 8,
    codedAs (Form.res b (operand8OfCode z)) [0xCB, BitVec.ofNat 8 (0x80 + 8 * b.val + z.val)]
      (if z = 6 then 16 else 8) ∧
    codedAs (Form.set b (operand8OfCode z)) [0xCB, BitVec.ofNat 8 (0xC0 + 8 * b.val + z.val)]
      (if z = 6 then 16 else 8)) ∧
  ∀ (b : Fin 8) (o : Operand8) (s : State),
    (∃ (t : State) (v : Byte), answers (Form.res b o) s t ∧ storesOnlyOperand o s t ∧
      t = afterWrite (Form.res b o) s o v s.flags ∧
      ∀ j : Fin 8, v.getLsbD j.val = (!decide (j = b) && (s.readOp o).getLsbD j.val)) ∧
    ∃ (t : State) (v : Byte), answers (Form.set b o) s t ∧ storesOnlyOperand o s t ∧
      t = afterWrite (Form.set b o) s o v s.flags ∧
      ∀ j : Fin 8, v.getLsbD j.val = (decide (j = b) || (s.readOp o).getLsbD j.val)

/-! Loads and stores. -/

/-- LD r,r', LD r,n8 and LD r,(HL): the register takes the value, nothing else changes; the address
of LD r,(HL) is the old HL (R180-R182). The register names, operand codes and sources by which these
and the other statements read and write are tied to the register fields (R93, R94, R110). -/
def Obligations.LoadRegister : Prop :=
  ∀ (dst src : Reg8) (n : Byte),
    codedAs (Form.ldRegReg dst src) [BitVec.ofNat 8 (0x40 + 8 * regCode dst + regCode src)] 4 ∧
    codedAs (Form.ldImm (.reg dst) n) [BitVec.ofNat 8 (0x06 + 8 * regCode dst), n] 8 ∧
    codedAs (Form.ldRegMem dst) [BitVec.ofNat 8 (0x46 + 8 * regCode dst)] 8 ∧
    (List.finRange 8).map operand8OfCode =
      [.reg .b, .reg .c, .reg .d, .reg .e, .reg .h, .reg .l, .memHL, .reg .a] ∧
    ∀ s : State,
      operandsNameFields s ∧
      let loads (i : Instr) (v : Byte) : Prop :=
        ∃ t, answers i s t ∧ (∀ q, t.reg q = if q = dst then v else s.reg q) ∧
          t = { s with pc := next i s, regs := t.regs }
      loads (Form.ldRegReg dst src) (s.reg src) ∧ loads (Form.ldImm (.reg dst) n) n ∧
      loads (Form.ldRegMem dst) (s.busRead s.hl)

/-- The loads of A: through BC, DE, HL with HL stepped, an absolute address, the high page, C
(R185, R187, R188, R191, R193, R195). -/
def Obligations.LoadAccumulator : Prop :=
  (codedAs .ld_a_mBC [0x0A] 8 ∧ codedAs .ld_a_mDE [0x1A] 8 ∧ codedAs .ld_a_mHLi [0x2A] 8 ∧
    codedAs .ld_a_mHLd [0x3A] 8 ∧ codedAs .ld_a_mC [0xF2] 8 ∧
    (∀ n, codedAs (.ldh_a_mN8 n) [0xF0, n] 12) ∧
    ∀ n, codedAs (.ld_a_mN16 n) [0xFA, loByte n, hiByte n] 16) ∧
  ∀ s : State,
    let loads (i : Instr) (addr : Word) : Prop :=
      answers i s { s with pc := next i s, regs.a := s.busRead addr }
    let loadsStepping (i : Instr) (hl : Word) : Prop :=
      answers i s
        { s with
          pc := next i s
          regs.a := s.busRead s.hl
          regs.h := hiByte hl
          regs.l := loByte hl }
    loads .ld_a_mBC s.bc ∧ loads .ld_a_mDE s.de ∧
    loadsStepping .ld_a_mHLi (BitVec.ofNat 16 (s.hl.toNat + 1)) ∧
    loadsStepping .ld_a_mHLd (BitVec.ofInt 16 (s.hl.toNat - 1)) ∧
    (∀ n, loads (.ld_a_mN16 n) n) ∧
    (∀ n, loads (.ldh_a_mN8 n) (BitVec.ofNat 16 (0xFF00 + n.toNat))) ∧
    loads .ld_a_mC (BitVec.ofNat 16 (0xFF00 + s.regs.c.toNat))

/-- LD (HL),r and LD (HL),n8: one bus write at HL, nothing else changes (R183, R184). -/
def Obligations.StoreAtHL : Prop :=
  (∀ r : Reg8, codedAs (Form.ldMemReg r) [BitVec.ofNat 8 (0x70 + regCode r)] 8) ∧
  (∀ n, codedAs (.ld_mHL_n8 n) [0x36, n] 12) ∧
  ∀ (s : State),
    let stores (i : Instr) (v : Byte) : Prop :=
      ∃ t, answers i s t ∧ t = ({ s with pc := next i s } : State).busWrite s.hl v ∧
        storesOnlyAt s t s.hl
    (∀ r, stores (Form.ldMemReg r) (s.reg r)) ∧ ∀ n, stores (.ld_mHL_n8 n) n

/-- The stores of A: through BC, DE, HL with HL stepped, an absolute address, the high page, C
(R186, R189, R190, R192, R194, R196). -/
def Obligations.StoreAccumulator : Prop :=
  (codedAs .ld_mBC_a [0x02] 8 ∧ codedAs .ld_mDE_a [0x12] 8 ∧ codedAs .ld_mHLi_a [0x22] 8 ∧
    codedAs .ld_mHLd_a [0x32] 8 ∧ codedAs .ld_mC_a [0xE2] 8 ∧
    (∀ n, codedAs (.ldh_mN8_a n) [0xE0, n] 12) ∧
    ∀ n, codedAs (.ld_mN16_a n) [0xEA, loByte n, hiByte n] 16) ∧
  ∀ s : State,
    let stores (i : Instr) (addr : Word) : Prop :=
      ∃ t, answers i s t ∧
        t = ({ s with pc := next i s } : State).busWrite addr s.regs.a ∧
        storesOnlyAt s t addr
    let storesStepping (i : Instr) (hl : Word) : Prop :=
      ∃ t, answers i s t ∧
        t = { (({ s with pc := next i s } : State).busWrite s.hl s.regs.a) with
          regs.h := hiByte hl, regs.l := loByte hl } ∧
        storesOnlyAt s t s.hl
    stores .ld_mBC_a s.bc ∧ stores .ld_mDE_a s.de ∧
    storesStepping .ld_mHLi_a (BitVec.ofNat 16 (s.hl.toNat + 1)) ∧
    storesStepping .ld_mHLd_a (BitVec.ofInt 16 (s.hl.toNat - 1)) ∧
    (∀ n, stores (.ld_mN16_a n) n) ∧
    (∀ n, stores (.ldh_mN8_a n) (BitVec.ofNat 16 (0xFF00 + n.toNat))) ∧
    stores .ld_mC_a (BitVec.ofNat 16 (0xFF00 + s.regs.c.toNat))

/-- LD rr,n16, LD SP,HL and LD (n16),SP, the last storing SP's low byte at n16 and its high byte at
n16 + 1 (R197-R199). That byte order is the spec's own decision D6 (log entry 9). -/
def Obligations.LoadWord : Prop :=
  ∀ (p : Pair) (n : Word),
    codedAs (Form.ldPairImm p n) [BitVec.ofNat 8 (0x01 + 16 * pairCode p), loByte n, hiByte n]
      12 ∧
    codedAs (.ld_mN16_sp n) [0x08, loByte n, hiByte n] 20 ∧ codedAs .ld_sp_hl [0xF9] 8 ∧
    ∀ s : State,
      (∃ t, answers (Form.ldPairImm p n) s t ∧
        (∀ q, t.pair q = if q = p then n else s.pair q) ∧
        t = { s with pc := next (Form.ldPairImm p n) s, sp := t.sp, regs := t.regs } ∧
        t.regs.a = s.regs.a) ∧
      (∃ t, answers (.ld_mN16_sp n) s t ∧
        t = (({ s with pc := next (.ld_mN16_sp n) s } : State).busWrite n (loByte s.sp)).busWrite
          (n + 1) (hiByte s.sp) ∧
        storesOnlyAt2 s t n (n + 1)) ∧
      answers .ld_sp_hl s { s with pc := next .ld_sp_hl s, sp := s.hl }

/-! The stack. -/

/-- PUSH: SP down, the high byte, SP down, the low byte, which ends at the lower address; for AF the
low byte is the packed flags (R200). -/
def Obligations.PushStoresHighThenLow : Prop :=
  ∀ p : StackPair,
    codedAs (Form.push p) [BitVec.ofNat 8 (0xC5 + 16 * stackCode p)] 16 ∧
    ∀ s : State,
      ∃ t, answers (Form.push p) s t ∧
        t = pushed { s with pc := next (Form.push p) s } (stackBytes s p).1 (stackBytes s p).2 ∧
        storesOnlyAt2 s t (s.sp - 1) (s.sp - 2)

/-- POP: the low byte from SP, the high byte from SP + 1, SP up by two; POP AF takes the flags from
the low byte's top four bits (R201). -/
def Obligations.PopLoadsLowThenHigh : Prop :=
  ∀ p : StackPair,
    codedAs (Form.pop p) [BitVec.ofNat 8 (0xC1 + 16 * stackCode p)] 12 ∧
    ∀ s : State,
      answers (Form.pop p) s
        (poppedInto { s with pc := next (Form.pop p) s, sp := s.sp + 2 } p
          (s.busRead (s.sp + 1)) (s.busRead s.sp))

/-- PUSH then POP of the same pair restores it, and SP, when both pushed bytes go to storage that
reads back: not below 0x8000, not DIV, not disabled cartridge RAM. This is the property R201 derives,
and more: R201's proviso also leaves TAC (0xFF07) out, as a place where the byte is not read back, but
R60, R38 and R62 store all eight bits there and read them back (bits 7-3 by the spec's own D18), so at
TAC it follows from those rules, against R201's proviso (log entry 21). -/
def Obligations.PushThenPopRestores : Prop :=
  ∀ (p : StackPair) (s : State),
    let plain (a : Word) : Prop :=
      0x8000 ≤ a.toNat ∧ a ≠ 0xFF04 ∧ s.cellAt a ≠ .openBus
    plain (s.sp - 1) → plain (s.sp - 2) →
    ∃ t u, answers (Form.push p) s t ∧ answers (Form.pop p) t u ∧ u.regs = s.regs ∧
      u.flags = s.flags ∧ u.sp = s.sp

/-! Control transfer. -/

/-- JP n16, JP HL and JP cc,n16: PC is the target, or `next` when the condition fails; nothing else
changes (R210-R213). -/
def Obligations.JumpsSetPc : Prop :=
  ∀ (cc : Cond) (n : Word),
    codedAs (.jp_n16 n) [0xC3, loByte n, hiByte n] 16 ∧ codedAs .jp_hl [0xE9] 4 ∧
    encode (Form.jpCond cc n) = [BitVec.ofNat 8 (0xC2 + 8 * condCode cc), loByte n, hiByte n] ∧
    ∀ s : State,
      cycles (Form.jpCond cc n) s = (if taken s.flags cc then 16 else 12) ∧
      answers (.jp_n16 n) s { s with pc := n } ∧ answers .jp_hl s { s with pc := s.hl } ∧
      answers (Form.jpCond cc n) s
        { s with pc := if taken s.flags cc then n else next (Form.jpCond cc n) s }

/-- JR e8 and JR cc,e8: PC is `next` plus the signed offset, or `next` when the condition fails
(R214, R215). -/
def Obligations.RelativeJumps : Prop :=
  ∀ (cc : Cond) (e : Byte),
    codedAs (.jr_e8 e) [0x18, e] 12 ∧
    encode (Form.jrCond cc e) = [BitVec.ofNat 8 (0x20 + 8 * condCode cc), e] ∧
    ∀ s : State,
      let target (nxt : Word) : Word :=
        BitVec.ofInt 16
          ((nxt.toNat : Int) + if e.toNat < 0x80 then (e.toNat : Int) else e.toNat - 0x100)
      cycles (Form.jrCond cc e) s = (if taken s.flags cc then 12 else 8) ∧
      answers (.jr_e8 e) s { s with pc := target (next (.jr_e8 e) s) } ∧
      answers (Form.jrCond cc e) s
        { s with
          pc := if taken s.flags cc then target (next (Form.jrCond cc e) s)
            else next (Form.jrCond cc e) s }

/-- CALL n16, CALL cc,n16 and RST: the address after the instruction is pushed, PC is the target; a
call not taken pushes nothing (R216, R217, R221). -/
def Obligations.CallsPushReturnAddress : Prop :=
  ∀ (cc : Cond) (n : Word) (y : Fin 8),
    codedAs (.call_n16 n) [0xCD, loByte n, hiByte n] 24 ∧
    encode (Form.callCond cc n) =
      [BitVec.ofNat 8 (0xC4 + 8 * condCode cc), loByte n, hiByte n] ∧
    codedAs (Form.rst y) [BitVec.ofNat 8 (0xC7 + 8 * y.val)] 16 ∧
    ∀ s : State,
      let calls (i : Instr) (target : Word) : Prop :=
        ∃ t, answers i s t ∧
          t = { pushed s (hiByte (next i s)) (loByte (next i s)) with pc := target } ∧
          storesOnlyAt2 s t (s.sp - 1) (s.sp - 2)
      calls (.call_n16 n) n ∧ calls (Form.rst y) (BitVec.ofNat 16 (8 * y.val)) ∧
      (taken s.flags cc = true →
        calls (Form.callCond cc n) n ∧ cycles (Form.callCond cc n) s = 24) ∧
      (taken s.flags cc = false →
        answers (Form.callCond cc n) s { s with pc := next (Form.callCond cc n) s } ∧
        cycles (Form.callCond cc n) s = 12)

/-- RET, RET cc and RETI: PC is the popped address, SP up by two; RETI sets IME at once and leaves
eiDelay; a return not taken reads nothing (R210, R218-R220). -/
def Obligations.ReturnsPopAddress : Prop :=
  ∀ cc : Cond,
    codedAs .ret [0xC9] 16 ∧ codedAs .reti [0xD9] 16 ∧
    encode (Form.retCond cc) = [BitVec.ofNat 8 (0xC0 + 8 * condCode cc)] ∧
    ∀ s : State,
      let target : Word :=
        BitVec.ofNat 16 ((s.busRead (s.sp + 1)).toNat * 256 + (s.busRead s.sp).toNat)
      answers .ret s { s with pc := target, sp := s.sp + 2 } ∧
      answers .reti s { s with pc := target, sp := s.sp + 2, irq.ime := true } ∧
      (taken s.flags cc = true →
        answers (Form.retCond cc) s { s with pc := target, sp := s.sp + 2 } ∧
        cycles (Form.retCond cc) s = 20) ∧
      (taken s.flags cc = false →
        answers (Form.retCond cc) s { s with pc := next (Form.retCond cc) s } ∧
        cycles (Form.retCond cc) s = 8)

/-! System instructions. -/

/-- NOP and STOP only move PC, by one and by two; HALT sets halted (R230, R231, R235).
STOP as a two-byte no-op is the spec's own decision D20, HALT without the console's repeated byte D19
(log entry 9). -/
def Obligations.NopStopHalt : Prop :=
  codedAs .nop [0x00] 4 ∧ codedAs .halt [0x76] 4 ∧ (∀ x, codedAs (.stop x) [0x10, x] 4) ∧
  ∀ (s : State) (x : Byte),
    answers .nop s { s with pc := s.pc + 1 } ∧
    answers (.stop x) s { s with pc := s.pc + 2 } ∧
    answers .halt s { s with pc := s.pc + 1, halted := true }

/-- DI clears IME and a pending EI; EI starts the delay and leaves IME (R233, R234). -/
def Obligations.DisableEnableInterrupts : Prop :=
  codedAs .di [0xF3] 4 ∧ codedAs .ei [0xFB] 4 ∧
  ∀ s : State,
    answers .di s { s with pc := s.pc + 1, irq.ime := false, irq.eiDelay := 0 } ∧
    answers .ei s { s with pc := s.pc + 1, irq.eiDelay := 2 }

/-- EI takes effect after the next instruction: its own step leaves IME 0; the step of the next
executed instruction (not DI, not EI) begins its interrupt check with IME 1, so that it ends there
with nothing pending or has dispatched the pending interrupt (R234, R284). The delay is the spec's
own decision D4 and its place before the check D25; the draw within `beforeCheck` is the model's (log
entry 2). -/
def Obligations.EiTakesEffectAfterNext : Prop :=
  ∀ s t : State, s.running = true → s.halted = false → step s = .next t →
    (s.fetched = .ei → s.irq.ime = false →
      t.irq.ime = false ∧ t.irq.eiDelay = 1 ∧ t.pc = s.pc + 1 ∧ t.halted = false) ∧
    (s.irq.eiDelay = 1 → s.fetched ≠ .di → s.fetched ≠ .ei → wellFormed s.fetched = true →
      ∃ v, exec s.fetched s = .next v ∧
        let u := beforeCheck true (cycles s.fetched s) v
        u.irq.ime = true ∧ u.irq.eiDelay = 0 ∧
        ((u.pending = none ∧ t = u) ∨
          ∃ k, u.pending = some k ∧ t = timerAdvance 20 (u.dispatch k)))

/-- Among the instructions only DI, RETI and the unused opcodes write IME; EI writes it through the
delay alone (R28, R246). -/
def Obligations.OnlyNamedInstructionsWriteIme : Prop :=
  ∀ (i : Instr) (s : State), i ≠ .di → i ≠ .reti → wellFormed i = true →
    ∃ t, exec i s = .next t ∧ t.irq.ime = s.irq.ime ∧
      (i ≠ .ei → t.irq.eiDelay = s.irq.eiDelay) ∧ (i ≠ .halt → t.halted = s.halted) ∧
      t.running = s.running ∧ t.fault = s.fault

/-! Interrupts. -/

/-- The source dispatched is the lowest bit that is both requested and enabled (R245, R248), and
dispatch clears its request alone, IME, a pending EI and halted, pushes PC, and goes to
0x40 + 8k (R249). That bits 7-5 of IE and IF take no part is the spec's own decision D18, that a
dispatch cancels a pending EI D4 (log entry 9). The pushed bytes lie where R249's pseudocode puts them:
with SP = 0xFF10 the first one, the high byte, overwrites IF, not the second as R249's remark has it
(log entry 22). -/
def Obligations.DispatchServesLowestPending : Prop :=
  (∀ (s : State) (k : Fin 5),
    s.pending = some k ↔
      s.irq.ie.getLsbD k.val = true ∧ s.irq.ifr.getLsbD k.val = true ∧
      ∀ j : Fin 5, j < k →
        ¬(s.irq.ie.getLsbD j.val = true ∧ s.irq.ifr.getLsbD j.val = true)) ∧
  ∀ (s : State) (k : Fin 5),
    ∃ f : Byte,
      (∀ j : Fin 8, f.getLsbD j.val = (!decide (j.val = k.val) && s.irq.ifr.getLsbD j.val)) ∧
      s.dispatch k =
        { pushed
            { s with
              irq := { ime := false, eiDelay := 0, ifr := f, ie := s.irq.ie }
              halted := false }
            (hiByte s.pc) (loByte s.pc) with
          pc := BitVec.ofNat 16 (0x40 + 8 * k.val) }

/-- The check: with nothing pending the step is complete as it stands; with a pending interrupt the
core wakes whatever IME is, and if IME is set the interrupt is dispatched, its 20 cycles charged to
the timer and added (R232, R240, R246, R249). That with IME 0 the core wakes without a dispatch, IF
kept, is the spec's own decision D19, the 20 cycles D17 (log entry 9). -/
def Obligations.CheckWakesAndDispatches : Prop :=
  ∀ (s : State) (c : Nat),
    (s.pending = none → interruptCheck c s = (.completed c, s)) ∧
    ∀ k, s.pending = some k →
      (s.irq.ime = false → interruptCheck c s = (.completed c, { s with halted := false })) ∧
      (s.irq.ime = true →
        interruptCheck c s = (.completed (c + 20), timerAdvance 20 (s.dispatch k)))

/-- After every completed step no interrupt is left that should have been taken: with IME set nothing
is pending, and a core still halted has nothing pending (R232, R240, R246). The order within a step is
the spec's own decision D25, the wake with IME 0 D19 (log entry 9). -/
def Obligations.CompletedStepLeavesNothingPending : Prop :=
  ∀ s t : State, s.running = true → step s = .next t →
    (t.irq.ime = true → t.pending = none) ∧ (t.halted = true → t.pending = none)

/-! Timer. -/

/-- The divider: DIV and divCounter together count cycles modulo 0x10000, whatever TAC holds (R250).
What else the timer may change is TIMA, timaCounter and IF. -/
def Obligations.DividerCountsCycles : Prop :=
  ∀ (s : State) (c : Nat), s.timer.divCounter < 256 →
    let t := timerAdvance c s
    256 * t.timer.div.toNat + t.timer.divCounter =
      (256 * s.timer.div.toNat + s.timer.divCounter + c) % 0x10000 ∧
    t.timer.divCounter < 256 ∧
    t = { s with
      timer :=
        { s.timer with
          div := t.timer.div
          divCounter := t.timer.divCounter
          tima := t.timer.tima
          timaCounter := t.timer.timaCounter }
      irq.ifr := t.irq.ifr }

/-- The countdown: frozen while TAC bit 2 is 0; else it loses `c`, and each expiry (reaching 0) adds
the scaler and increments TIMA, past 0xFF reloading it from TMA and requesting interrupt 2
(R251, R252). Up to two expiries in one advance, as many as 24 cycles can cause. That it expires
on reaching 0, not below it, is the spec's own decision D16 (log entry 9). -/
def Obligations.CountdownExpiresAtZero : Prop :=
  ∀ (s : State) (c : Nat),
    let t := timerAdvance c s
    let tick := timaTick s.timer.tma
    let n : Int := s.timer.timaCounter - c
    let k : Int := s.timer.scaler.cycles
    let now := (s.timer.tima, s.irq.ifr)
    let after := (t.timer.tima, t.irq.ifr)
    (s.timer.tac.getLsbD 2 = false → t.timer.timaCounter = s.timer.timaCounter ∧ after = now) ∧
    (s.timer.tac.getLsbD 2 = true →
      (0 < n → t.timer.timaCounter = n ∧ after = now) ∧
      (n ≤ 0 → -k < n → t.timer.timaCounter = n + k ∧ after = tick now) ∧
      (n ≤ -k → -(2 * k) < n → t.timer.timaCounter = n + 2 * k ∧ after = tick (tick now)))

/-! Invariants. -/

/-- The reset state, with its blank ROM (the model's choice, log entry 3) and the spec's own reset values
(D4, D7, D8, D26, D27), meets the invariant. -/
def Obligations.ResetMeetsInvariant : Prop := State.reset.Inv

/-- Every step keeps the invariant: the ranges of the hidden counters, the bank registers' ranges with
romBank never 0, the family of the ROM's type byte, a faulted core stopped, and the canonical form of
ROM, RAM and memory, which is the model's own (log entry 12). The ROM's least length is the spec's own
D11, the families' type bytes D12, the bank ranges rest on D14 and D31 (log entry 9). -/
def Obligations.StepKeepsInvariant : Prop :=
  ∀ s t : State, s.Inv → step s = .next t → t.Inv
end

