-- ==== Sys2Proof/Laws/Memory.lean ====
section
/-!
SUPPORT. The laws of a sparse store: a read after a write, that other addresses are left alone, and
that every operation keeps the canonical form.
-/
namespace Sys2Proof.Machine

@[simp] theorem Memory.get_set_same (m : Memory) (a : Nat) (v : Byte) :
    (m.set a v).get a = some v := by
  induction m with
  | nil => simp [Memory.set, Memory.get]
  | cons c m ih =>
    obtain ⟨k, w⟩ := c
    simp only [Memory.set]
    split
    · simp [Memory.get]
    · split
      · simp [Memory.get]
      · rename_i h
        simp [Memory.get, h, ih]

theorem Memory.get_set_other (m : Memory) {a b : Nat} (v : Byte) (h : b ≠ a) :
    (m.set a v).get b = m.get b := by
  induction m with
  | nil => simp [Memory.set, Memory.get, h]
  | cons c m ih =>
    obtain ⟨k, w⟩ := c
    simp only [Memory.set]
    split
    · simp [Memory.get, h]
    · split
      · rename_i hk
        subst hk
        simp [Memory.get, h]
      · simp [Memory.get, ih]

theorem Memory.above_mono {m : Memory} {a b : Nat} (h : m.above b = true) (hab : a ≤ b) :
    m.above a = true := by
  induction m with
  | nil => rfl
  | cons c m ih =>
    obtain ⟨k, w⟩ := c
    simp only [Memory.above, Bool.and_eq_true, decide_eq_true_eq] at h ⊢
    exact ⟨by omega, ih h.2⟩

theorem Memory.above_iff (m : Memory) (a : Nat) :
    m.above a = true ↔ ∀ c ∈ m, a < c.1 := by
  induction m with
  | nil => simp [Memory.above]
  | cons c m ih =>
    obtain ⟨k, w⟩ := c
    simp [Memory.above, ih]

theorem Memory.above_set {m : Memory} {a k : Nat} (v : Byte) (h : m.above k = true)
    (hk : k < a) : (m.set a v).above k = true := by
  induction m with
  | nil => simp [Memory.set, Memory.above, hk]
  | cons c m ih =>
    obtain ⟨j, w⟩ := c
    simp only [Memory.above, Bool.and_eq_true, decide_eq_true_eq] at h
    simp only [Memory.set]
    split
    · simp [Memory.above, hk, h]
    · split
      · simp [Memory.above, hk, h]
      · simp [Memory.above, h, ih h.2]

/-- A write keeps the canonical form. -/
theorem Memory.wf_set {m : Memory} (a : Nat) (v : Byte) (h : m.wf = true) :
    (m.set a v).wf = true := by
  induction m with
  | nil => rfl
  | cons c m ih =>
    obtain ⟨k, w⟩ := c
    simp only [Memory.wf, Bool.and_eq_true] at h
    simp only [Memory.set]
    split
    · rename_i hak
      simp [Memory.wf, Memory.above, hak, h, Memory.above_mono h.1 (Nat.le_of_lt hak)]
    · split
      · rename_i hak
        subst hak
        simp [Memory.wf, h]
      · have hk : k < a := by omega
        simp [Memory.wf, ih h.2, Memory.above_set v h.1 hk]

theorem Memory.mem_del {m : Memory} {a : Nat} {c : Host.Cell} (h : c ∈ m.del a) : c ∈ m := by
  induction m with
  | nil => exact h
  | cons d m ih =>
    obtain ⟨k, w⟩ := d
    simp only [Memory.del] at h
    split at h
    · exact List.mem_cons_of_mem _ h
    · rcases List.mem_cons.mp h with h | h
      · exact h ▸ List.mem_cons_self
      · exact List.mem_cons_of_mem _ (ih h)

theorem Memory.mem_set {m : Memory} {a : Nat} {v : Byte} {c : Host.Cell} (h : c ∈ m.set a v) :
    c = (a, v) ∨ c ∈ m := by
  induction m with
  | nil => simpa [Memory.set] using h
  | cons d m ih =>
    obtain ⟨k, w⟩ := d
    simp only [Memory.set] at h
    split at h
    · exact (List.mem_cons.mp h).imp_right id
    · split at h
      · exact (List.mem_cons.mp h).imp_right (List.mem_cons_of_mem _)
      · rcases List.mem_cons.mp h with h | h
        · exact .inr (h ▸ List.mem_cons_self)
        · exact (ih h).imp_right (List.mem_cons_of_mem _)

/-- Taking a byte off the list keeps the canonical form. -/
theorem Memory.wf_del {m : Memory} (a : Nat) (h : m.wf = true) : (m.del a).wf = true := by
  induction m with
  | nil => rfl
  | cons c m ih =>
    obtain ⟨k, w⟩ := c
    simp only [Memory.wf, Bool.and_eq_true] at h
    simp only [Memory.del]
    split
    · exact h.2
    · simp only [Memory.wf, Bool.and_eq_true]
      refine ⟨(Memory.above_iff _ _).mpr fun c hc => ?_, ih h.2⟩
      exact (Memory.above_iff _ _).mp h.1 c (Memory.mem_del hc)

theorem Memory.get_above {m : Memory} {a : Nat} (h : m.above a = true) : m.get a = none := by
  induction m with
  | nil => rfl
  | cons c m ih =>
    obtain ⟨k, w⟩ := c
    simp only [Memory.above, Bool.and_eq_true, decide_eq_true_eq] at h
    have hne : a ≠ k := by omega
    simp [Memory.get, hne, ih h.2]

/-- A byte taken off a canonical list is no longer listed. -/
theorem Memory.get_del_same {m : Memory} (a : Nat) (h : m.wf = true) : (m.del a).get a = none := by
  induction m with
  | nil => rfl
  | cons c m ih =>
    obtain ⟨k, w⟩ := c
    simp only [Memory.wf, Bool.and_eq_true] at h
    simp only [Memory.del]
    split
    · rename_i hak
      subst hak
      exact Memory.get_above h.1
    · rename_i hak
      simp [Memory.get, hak, ih h.2]

theorem Memory.get_del_other (m : Memory) {a b : Nat} (h : b ≠ a) : (m.del a).get b = m.get b := by
  induction m with
  | nil => rfl
  | cons c m ih =>
    obtain ⟨k, w⟩ := c
    simp only [Memory.del]
    split
    · rename_i hak
      subst hak
      simp [Memory.get, h]
    · simp [Memory.get, ih]

/-- A write over a default keeps the canonical form, the default never being listed. -/
theorem Memory.wf_setOver {m : Memory} (d : Byte) (a : Nat) (v : Byte) (h : m.wf = true) :
    (m.setOver d a v).wf = true := by
  unfold Memory.setOver
  split
  · exact Memory.wf_del a h
  · exact Memory.wf_set a v h

theorem Memory.setOver_no_default {m : Memory} {d : Byte} {a : Nat} {v : Byte}
    (h : ∀ c ∈ m, c.2 ≠ d) : ∀ c ∈ m.setOver d a v, c.2 ≠ d := by
  intro c hc
  unfold Memory.setOver at hc
  split at hc
  · exact h c (Memory.mem_del hc)
  · rename_i hv
    rcases Memory.mem_set hc with rfl | hc
    · exact hv
    · exact h c hc

/-- A byte written over a default reads as written. -/
theorem Memory.getD_setOver_same {m : Memory} (d : Byte) (a : Nat) (v : Byte) (h : m.wf = true) :
    ((m.setOver d a v).get a).getD d = v := by
  unfold Memory.setOver
  split
  · rename_i hv
    simp [Memory.get_del_same a h, hv]
  · simp

/-- An image's listing is canonical: addresses inside it, no 0x00. -/
theorem Memory.mem_ofBytes {a : Nat} {vs : List Byte} {c : Host.Cell}
    (h : c ∈ Memory.ofBytes a vs) : a ≤ c.1 ∧ c.1 < a + vs.length ∧ c.2 ≠ 0 := by
  induction vs generalizing a with
  | nil => exact absurd h List.not_mem_nil
  | cons v vs ih =>
    simp only [Memory.ofBytes] at h
    rw [List.length_cons]
    split at h
    · obtain ⟨h1, h2, h3⟩ := ih h
      exact ⟨by omega, by omega, h3⟩
    · rename_i hv
      rcases List.mem_cons.mp h with rfl | h
      · exact ⟨Nat.le_refl _, by omega, hv⟩
      · obtain ⟨h1, h2, h3⟩ := ih h
        exact ⟨by omega, by omega, h3⟩

theorem Memory.wf_ofBytes (a : Nat) (vs : List Byte) : (Memory.ofBytes a vs).wf = true := by
  induction vs generalizing a with
  | nil => rfl
  | cons v vs ih =>
    simp only [Memory.ofBytes]
    split
    · exact ih (a + 1)
    · simp only [Memory.wf, Bool.and_eq_true]
      refine ⟨(Memory.above_iff _ _).mpr fun c hc => ?_, ih (a + 1)⟩
      have := Memory.mem_ofBytes hc
      omega

/-- Looking a byte up finds one listed at the address, or none is. -/
theorem Memory.get_cases (m : Memory) (a : Nat) :
    (∃ v, m.get a = some v ∧ (a, v) ∈ m) ∨ (m.get a = none ∧ ∀ w, (a, w) ∉ m) := by
  induction m with
  | nil => exact .inr ⟨rfl, fun _ h => nomatch h⟩
  | cons c m ih =>
    obtain ⟨k, v⟩ := c
    simp only [Memory.get]
    by_cases h : a = k
    · subst h
      exact .inl ⟨v, if_pos rfl, List.mem_cons_self⟩
    · rw [if_neg h]
      rcases ih with ⟨w, e, hw⟩ | ⟨e, hw⟩
      · exact .inl ⟨w, e, List.mem_cons_of_mem _ hw⟩
      · refine .inr ⟨e, fun w hm => ?_⟩
        rcases List.mem_cons.mp hm with q | q
        · exact h (congrArg Prod.fst q)
        · exact hw w q

end Sys2Proof.Machine
end

