-- ==== Sys2Proof/Laws/State.lean ====
section
/-!
SUPPORT. One lemma per field per update of the state: what each named update of a register leaves of
every other field, and what it puts into its own.
-/
namespace Sys2Proof.Machine

@[simp] theorem setA_flags (s : State) (v : Byte) : (s.setA v).flags = s.flags := rfl
@[simp] theorem setA_sp (s : State) (v : Byte) : (s.setA v).sp = s.sp := rfl
@[simp] theorem setA_pc (s : State) (v : Byte) : (s.setA v).pc = s.pc := rfl
@[simp] theorem setA_irq (s : State) (v : Byte) : (s.setA v).irq = s.irq := rfl
@[simp] theorem setA_halted (s : State) (v : Byte) : (s.setA v).halted = s.halted := rfl
@[simp] theorem setA_running (s : State) (v : Byte) : (s.setA v).running = s.running := rfl
@[simp] theorem setA_fault (s : State) (v : Byte) : (s.setA v).fault = s.fault := rfl
@[simp] theorem setA_timer (s : State) (v : Byte) : (s.setA v).timer = s.timer := rfl
@[simp] theorem setA_bank (s : State) (v : Byte) : (s.setA v).bank = s.bank := rfl
@[simp] theorem setA_cart (s : State) (v : Byte) : (s.setA v).cart = s.cart := rfl
@[simp] theorem setA_mem (s : State) (v : Byte) : (s.setA v).mem = s.mem := rfl
@[simp] theorem setA_env (s : State) (v : Byte) : (s.setA v).env = s.env := rfl

@[simp] theorem setReg_flags (s : State) (r : Reg8) (v : Byte) : (s.setReg r v).flags = s.flags := by cases r <;> rfl
@[simp] theorem setReg_sp (s : State) (r : Reg8) (v : Byte) : (s.setReg r v).sp = s.sp := by cases r <;> rfl
@[simp] theorem setReg_pc (s : State) (r : Reg8) (v : Byte) : (s.setReg r v).pc = s.pc := by cases r <;> rfl
@[simp] theorem setReg_irq (s : State) (r : Reg8) (v : Byte) : (s.setReg r v).irq = s.irq := by cases r <;> rfl
@[simp] theorem setReg_halted (s : State) (r : Reg8) (v : Byte) : (s.setReg r v).halted = s.halted := by cases r <;> rfl
@[simp] theorem setReg_running (s : State) (r : Reg8) (v : Byte) : (s.setReg r v).running = s.running := by cases r <;> rfl
@[simp] theorem setReg_fault (s : State) (r : Reg8) (v : Byte) : (s.setReg r v).fault = s.fault := by cases r <;> rfl
@[simp] theorem setReg_timer (s : State) (r : Reg8) (v : Byte) : (s.setReg r v).timer = s.timer := by cases r <;> rfl
@[simp] theorem setReg_bank (s : State) (r : Reg8) (v : Byte) : (s.setReg r v).bank = s.bank := by cases r <;> rfl
@[simp] theorem setReg_cart (s : State) (r : Reg8) (v : Byte) : (s.setReg r v).cart = s.cart := by cases r <;> rfl
@[simp] theorem setReg_mem (s : State) (r : Reg8) (v : Byte) : (s.setReg r v).mem = s.mem := by cases r <;> rfl
@[simp] theorem setReg_env (s : State) (r : Reg8) (v : Byte) : (s.setReg r v).env = s.env := by cases r <;> rfl

@[simp] theorem setFlags_regs (s : State) (f : Flags) : (s.setFlags f).regs = s.regs := rfl
@[simp] theorem setFlags_sp (s : State) (f : Flags) : (s.setFlags f).sp = s.sp := rfl
@[simp] theorem setFlags_pc (s : State) (f : Flags) : (s.setFlags f).pc = s.pc := rfl
@[simp] theorem setFlags_irq (s : State) (f : Flags) : (s.setFlags f).irq = s.irq := rfl
@[simp] theorem setFlags_halted (s : State) (f : Flags) : (s.setFlags f).halted = s.halted := rfl
@[simp] theorem setFlags_running (s : State) (f : Flags) : (s.setFlags f).running = s.running := rfl
@[simp] theorem setFlags_fault (s : State) (f : Flags) : (s.setFlags f).fault = s.fault := rfl
@[simp] theorem setFlags_timer (s : State) (f : Flags) : (s.setFlags f).timer = s.timer := rfl
@[simp] theorem setFlags_bank (s : State) (f : Flags) : (s.setFlags f).bank = s.bank := rfl
@[simp] theorem setFlags_cart (s : State) (f : Flags) : (s.setFlags f).cart = s.cart := rfl
@[simp] theorem setFlags_mem (s : State) (f : Flags) : (s.setFlags f).mem = s.mem := rfl
@[simp] theorem setFlags_env (s : State) (f : Flags) : (s.setFlags f).env = s.env := rfl

@[simp] theorem setHL_flags (s : State) (v : Word) : (s.setHL v).flags = s.flags := rfl
@[simp] theorem setHL_sp (s : State) (v : Word) : (s.setHL v).sp = s.sp := rfl
@[simp] theorem setHL_pc (s : State) (v : Word) : (s.setHL v).pc = s.pc := rfl
@[simp] theorem setHL_irq (s : State) (v : Word) : (s.setHL v).irq = s.irq := rfl
@[simp] theorem setHL_halted (s : State) (v : Word) : (s.setHL v).halted = s.halted := rfl
@[simp] theorem setHL_running (s : State) (v : Word) : (s.setHL v).running = s.running := rfl
@[simp] theorem setHL_fault (s : State) (v : Word) : (s.setHL v).fault = s.fault := rfl
@[simp] theorem setHL_timer (s : State) (v : Word) : (s.setHL v).timer = s.timer := rfl
@[simp] theorem setHL_bank (s : State) (v : Word) : (s.setHL v).bank = s.bank := rfl
@[simp] theorem setHL_cart (s : State) (v : Word) : (s.setHL v).cart = s.cart := rfl
@[simp] theorem setHL_mem (s : State) (v : Word) : (s.setHL v).mem = s.mem := rfl
@[simp] theorem setHL_env (s : State) (v : Word) : (s.setHL v).env = s.env := rfl

@[simp] theorem setPair_flags (s : State) (p : Pair) (v : Word) : (s.setPair p v).flags = s.flags := by cases p <;> rfl
@[simp] theorem setPair_pc (s : State) (p : Pair) (v : Word) : (s.setPair p v).pc = s.pc := by cases p <;> rfl
@[simp] theorem setPair_irq (s : State) (p : Pair) (v : Word) : (s.setPair p v).irq = s.irq := by cases p <;> rfl
@[simp] theorem setPair_halted (s : State) (p : Pair) (v : Word) : (s.setPair p v).halted = s.halted := by cases p <;> rfl
@[simp] theorem setPair_running (s : State) (p : Pair) (v : Word) : (s.setPair p v).running = s.running := by cases p <;> rfl
@[simp] theorem setPair_fault (s : State) (p : Pair) (v : Word) : (s.setPair p v).fault = s.fault := by cases p <;> rfl
@[simp] theorem setPair_timer (s : State) (p : Pair) (v : Word) : (s.setPair p v).timer = s.timer := by cases p <;> rfl
@[simp] theorem setPair_bank (s : State) (p : Pair) (v : Word) : (s.setPair p v).bank = s.bank := by cases p <;> rfl
@[simp] theorem setPair_cart (s : State) (p : Pair) (v : Word) : (s.setPair p v).cart = s.cart := by cases p <;> rfl
@[simp] theorem setPair_mem (s : State) (p : Pair) (v : Word) : (s.setPair p v).mem = s.mem := by cases p <;> rfl
@[simp] theorem setPair_env (s : State) (p : Pair) (v : Word) : (s.setPair p v).env = s.env := by cases p <;> rfl

@[simp] theorem setStackPair_sp (s : State) (p : StackPair) (v : Word) : (s.setStackPair p v).sp = s.sp := by cases p <;> rfl
@[simp] theorem setStackPair_pc (s : State) (p : StackPair) (v : Word) : (s.setStackPair p v).pc = s.pc := by cases p <;> rfl
@[simp] theorem setStackPair_irq (s : State) (p : StackPair) (v : Word) : (s.setStackPair p v).irq = s.irq := by cases p <;> rfl
@[simp] theorem setStackPair_halted (s : State) (p : StackPair) (v : Word) : (s.setStackPair p v).halted = s.halted := by cases p <;> rfl
@[simp] theorem setStackPair_running (s : State) (p : StackPair) (v : Word) : (s.setStackPair p v).running = s.running := by cases p <;> rfl
@[simp] theorem setStackPair_fault (s : State) (p : StackPair) (v : Word) : (s.setStackPair p v).fault = s.fault := by cases p <;> rfl
@[simp] theorem setStackPair_timer (s : State) (p : StackPair) (v : Word) : (s.setStackPair p v).timer = s.timer := by cases p <;> rfl
@[simp] theorem setStackPair_bank (s : State) (p : StackPair) (v : Word) : (s.setStackPair p v).bank = s.bank := by cases p <;> rfl
@[simp] theorem setStackPair_cart (s : State) (p : StackPair) (v : Word) : (s.setStackPair p v).cart = s.cart := by cases p <;> rfl
@[simp] theorem setStackPair_mem (s : State) (p : StackPair) (v : Word) : (s.setStackPair p v).mem = s.mem := by cases p <;> rfl
@[simp] theorem setStackPair_env (s : State) (p : StackPair) (v : Word) : (s.setStackPair p v).env = s.env := by cases p <;> rfl

@[simp] theorem advance_regs (s : State) (n : Nat) : (s.advance n).regs = s.regs := rfl
@[simp] theorem advance_flags (s : State) (n : Nat) : (s.advance n).flags = s.flags := rfl
@[simp] theorem advance_sp (s : State) (n : Nat) : (s.advance n).sp = s.sp := rfl
@[simp] theorem advance_irq (s : State) (n : Nat) : (s.advance n).irq = s.irq := rfl
@[simp] theorem advance_halted (s : State) (n : Nat) : (s.advance n).halted = s.halted := rfl
@[simp] theorem advance_running (s : State) (n : Nat) : (s.advance n).running = s.running := rfl
@[simp] theorem advance_fault (s : State) (n : Nat) : (s.advance n).fault = s.fault := rfl
@[simp] theorem advance_timer (s : State) (n : Nat) : (s.advance n).timer = s.timer := rfl
@[simp] theorem advance_bank (s : State) (n : Nat) : (s.advance n).bank = s.bank := rfl
@[simp] theorem advance_cart (s : State) (n : Nat) : (s.advance n).cart = s.cart := rfl
@[simp] theorem advance_mem (s : State) (n : Nat) : (s.advance n).mem = s.mem := rfl
@[simp] theorem advance_env (s : State) (n : Nat) : (s.advance n).env = s.env := rfl

@[simp] theorem setPc_regs (s : State) (v : Word) : (s.setPc v).regs = s.regs := rfl
@[simp] theorem setPc_flags (s : State) (v : Word) : (s.setPc v).flags = s.flags := rfl
@[simp] theorem setPc_sp (s : State) (v : Word) : (s.setPc v).sp = s.sp := rfl
@[simp] theorem setPc_irq (s : State) (v : Word) : (s.setPc v).irq = s.irq := rfl
@[simp] theorem setPc_halted (s : State) (v : Word) : (s.setPc v).halted = s.halted := rfl
@[simp] theorem setPc_running (s : State) (v : Word) : (s.setPc v).running = s.running := rfl
@[simp] theorem setPc_fault (s : State) (v : Word) : (s.setPc v).fault = s.fault := rfl
@[simp] theorem setPc_timer (s : State) (v : Word) : (s.setPc v).timer = s.timer := rfl
@[simp] theorem setPc_bank (s : State) (v : Word) : (s.setPc v).bank = s.bank := rfl
@[simp] theorem setPc_cart (s : State) (v : Word) : (s.setPc v).cart = s.cart := rfl
@[simp] theorem setPc_mem (s : State) (v : Word) : (s.setPc v).mem = s.mem := rfl
@[simp] theorem setPc_env (s : State) (v : Word) : (s.setPc v).env = s.env := rfl

@[simp] theorem setSp_regs (s : State) (v : Word) : (s.setSp v).regs = s.regs := rfl
@[simp] theorem setSp_flags (s : State) (v : Word) : (s.setSp v).flags = s.flags := rfl
@[simp] theorem setSp_pc (s : State) (v : Word) : (s.setSp v).pc = s.pc := rfl
@[simp] theorem setSp_irq (s : State) (v : Word) : (s.setSp v).irq = s.irq := rfl
@[simp] theorem setSp_halted (s : State) (v : Word) : (s.setSp v).halted = s.halted := rfl
@[simp] theorem setSp_running (s : State) (v : Word) : (s.setSp v).running = s.running := rfl
@[simp] theorem setSp_fault (s : State) (v : Word) : (s.setSp v).fault = s.fault := rfl
@[simp] theorem setSp_timer (s : State) (v : Word) : (s.setSp v).timer = s.timer := rfl
@[simp] theorem setSp_bank (s : State) (v : Word) : (s.setSp v).bank = s.bank := rfl
@[simp] theorem setSp_cart (s : State) (v : Word) : (s.setSp v).cart = s.cart := rfl
@[simp] theorem setSp_mem (s : State) (v : Word) : (s.setSp v).mem = s.mem := rfl
@[simp] theorem setSp_env (s : State) (v : Word) : (s.setSp v).env = s.env := rfl

/-! What the updates put into their own field. -/

@[simp] theorem setA_regs (s : State) (v : Byte) :
    (s.setA v).regs = { s.regs with a := v } := rfl
@[simp] theorem setFlags_flags (s : State) (f : Flags) : (s.setFlags f).flags = f := rfl
@[simp] theorem setHL_regs (s : State) (v : Word) :
    (s.setHL v).regs = { s.regs with h := hiByte v, l := loByte v } := rfl
@[simp] theorem advance_pc (s : State) (n : Nat) :
    (s.advance n).pc = s.pc + BitVec.ofNat 16 n := rfl
@[simp] theorem setPc_pc (s : State) (v : Word) : (s.setPc v).pc = v := rfl
@[simp] theorem setSp_sp (s : State) (v : Word) : (s.setSp v).sp = v := rfl

/-- A register written reads as written. -/
@[simp] theorem reg_setReg_same (s : State) (r : Reg8) (v : Byte) : (s.setReg r v).reg r = v := by
  cases r <;> rfl

/-- Writing a register leaves every other register. -/
theorem reg_setReg_other (s : State) {r q : Reg8} (v : Byte) (h : q ≠ r) :
    (s.setReg r v).reg q = s.reg q := by
  cases r <;> cases q <;> first | rfl | exact absurd rfl h

/-- Moving PC changes no register read, no pair, no storage. -/
@[simp] theorem advance_reg (s : State) (n : Nat) (r : Reg8) : (s.advance n).reg r = s.reg r := by
  cases r <;> rfl
@[simp] theorem advance_hl (s : State) (n : Nat) : (s.advance n).hl = s.hl := rfl
@[simp] theorem advance_bc (s : State) (n : Nat) : (s.advance n).bc = s.bc := rfl
@[simp] theorem advance_de (s : State) (n : Nat) : (s.advance n).de = s.de := rfl
@[simp] theorem advance_af (s : State) (n : Nat) : (s.advance n).af = s.af := rfl
@[simp] theorem advance_busRead (s : State) (n : Nat) (a : Word) :
    (s.advance n).busRead a = s.busRead a := rfl
@[simp] theorem setSp_busRead (s : State) (v a : Word) : (s.setSp v).busRead a = s.busRead a := rfl
@[simp] theorem setSp_hl (s : State) (v : Word) : (s.setSp v).hl = s.hl := rfl

/-- The flag byte keeps the flags. -/
@[simp] theorem Flags.ofByte_toByte (f : Flags) : Flags.ofByte f.toByte = f := by
  cases f with
  | mk z n h c => cases z <;> cases n <;> cases h <;> cases c <;> decide

/-- A byte put through the flags keeps its high nibble and loses its low one. -/
theorem Flags.toByte_ofByte (v : Byte) : (Flags.ofByte v).toByte = v &&& 0xF0 := by
  revert v
  decide

/-- The memories of the reset state are in canonical form. -/
theorem reset_memory_wf :
    State.reset.mem.wf = true ∧ State.reset.cart.ram.wf = true ∧
      State.reset.cart.rom.wf = true := by decide

end Sys2Proof.Machine
end

