-- ==== Sys2Proof/Laws/Words.lean ====
section
/-!
SUPPORT. The byte and word helpers as arithmetic, and that joining and selecting bytes are inverse
to each other.
-/
namespace Sys2Proof

theorem catBytes_toNat (h l : Byte) : (catBytes h l).toNat = h.toNat * 256 + l.toNat := by
  have e : (catBytes h l).toNat = h.toNat <<< 8 ||| l.toNat := BitVec.toNat_append h l
  rw [e, ← Nat.shiftLeft_add_eq_or_of_lt l.isLt, Nat.shiftLeft_eq]

theorem hiByte_toNat (w : Word) : (hiByte w).toNat = w.toNat / 256 := by
  have := w.isLt
  simp only [hiByte, BitVec.extractLsb'_toNat, Nat.shiftRight_eq_div_pow]
  omega

theorem loByte_toNat (w : Word) : (loByte w).toNat = w.toNat % 256 := by
  simp [loByte, BitVec.extractLsb'_toNat]

@[simp] theorem hiByte_catBytes (h l : Byte) : hiByte (catBytes h l) = h := by
  apply BitVec.eq_of_toNat_eq
  rw [hiByte_toNat, catBytes_toNat]
  omega

@[simp] theorem loByte_catBytes (h l : Byte) : loByte (catBytes h l) = l := by
  apply BitVec.eq_of_toNat_eq
  rw [loByte_toNat, catBytes_toNat]
  omega

@[simp] theorem catBytes_hi_lo (w : Word) : catBytes (hiByte w) (loByte w) = w := by
  apply BitVec.eq_of_toNat_eq
  rw [catBytes_toNat, hiByte_toNat, loByte_toNat]
  omega

end Sys2Proof
end

