-- ==== Sys2Proof/Laws/Bus.lean ====
section
/-!
SUPPORT. What a bus write, a push, a pop and a dispatch can do, said once: the fields they leave
alone, the cell a write changes, and that every other cell keeps its byte.
-/
namespace Sys2Proof.Machine

/-! A bus write leaves these fields alone. -/

/-- Everything a store to the flat array can do. -/
theorem writeFlat_frame (s : State) (a : Nat) (v : Byte) :
    (s.writeFlat a v).regs = s.regs ∧ (s.writeFlat a v).flags = s.flags ∧
    (s.writeFlat a v).sp = s.sp ∧ (s.writeFlat a v).pc = s.pc ∧
    (s.writeFlat a v).irq.ime = s.irq.ime ∧ (s.writeFlat a v).irq.eiDelay = s.irq.eiDelay ∧
    (s.writeFlat a v).halted = s.halted ∧ (s.writeFlat a v).running = s.running ∧
    (s.writeFlat a v).fault = s.fault ∧ (s.writeFlat a v).bank = s.bank ∧
    (s.writeFlat a v).cart = s.cart ∧ (s.writeFlat a v).env = s.env := by
  unfold State.writeFlat
  (repeat' split) <;> exact ⟨rfl, rfl, rfl, rfl, rfl, rfl, rfl, rfl, rfl, rfl, rfl, rfl⟩

/-- A bus write is a bank command, a store to cartridge RAM, a store to the flat array, or nothing. -/
theorem busWrite_cases (s : State) (addr : Word) (v : Byte) :
    (addr.toNat < 0x8000 ∧
      s.busWrite addr v = { s with bank := mbcWrite s.cart.family s.bank addr v }) ∨
    (¬addr.toNat < 0x8000 ∧ ∃ i, s.cellAt addr = .ram i ∧
      s.busWrite addr v = { s with cart.ram := s.cart.ram.set i v }) ∨
    (¬addr.toNat < 0x8000 ∧ ∃ a, s.cellAt addr = .flat a ∧
      s.busWrite addr v = s.writeFlat a v) ∨
    (¬addr.toNat < 0x8000 ∧ s.cellAt addr = .openBus ∧ s.busWrite addr v = s) := by
  by_cases h : addr.toNat < 0x8000
  · exact .inl ⟨h, by simp [State.busWrite, h]⟩
  · have h4 : ¬addr.toNat < 0x4000 := by omega
    cases hc : s.cellAt addr with
    | rom i =>
      simp only [State.cellAt, h, h4, if_false] at hc
      split at hc
      · split at hc <;> cases hc
      · split at hc <;> cases hc
    | ram i => exact .inr (.inl ⟨h, i, rfl, by simp [State.busWrite, h, hc]⟩)
    | flat a => exact .inr (.inr (.inl ⟨h, a, rfl, by simp [State.busWrite, h, hc]⟩))
    | openBus => exact .inr (.inr (.inr ⟨h, rfl, by simp [State.busWrite, h, hc]⟩))

/-- The fields no bus write touches. -/
theorem busWrite_frame (s : State) (addr : Word) (v : Byte) :
    (s.busWrite addr v).regs = s.regs ∧ (s.busWrite addr v).flags = s.flags ∧
    (s.busWrite addr v).sp = s.sp ∧ (s.busWrite addr v).pc = s.pc ∧
    (s.busWrite addr v).irq.ime = s.irq.ime ∧ (s.busWrite addr v).irq.eiDelay = s.irq.eiDelay ∧
    (s.busWrite addr v).halted = s.halted ∧ (s.busWrite addr v).running = s.running ∧
    (s.busWrite addr v).fault = s.fault ∧ (s.busWrite addr v).cart.rom = s.cart.rom ∧
    (s.busWrite addr v).cart.romLen = s.cart.romLen ∧
    (s.busWrite addr v).cart.family = s.cart.family ∧
    (s.busWrite addr v).cart.diag = s.cart.diag ∧ (s.busWrite addr v).env = s.env := by
  rcases busWrite_cases s addr v with ⟨_, e⟩ | ⟨_, _, _, e⟩ | ⟨_, a, _, e⟩ | ⟨_, _, e⟩ <;> rw [e]
  · simp
  · simp
  · obtain ⟨h1, h2, h3, h4, h5, h6, h7, h8, h9, -, h11, h12⟩ := writeFlat_frame s a v
    exact ⟨h1, h2, h3, h4, h5, h6, h7, h8, h9, h11 ▸ rfl, h11 ▸ rfl, h11 ▸ rfl, h11 ▸ rfl, h12⟩
  · simp

section
variable (s : State) (addr : Word) (v : Byte)

@[simp] theorem busWrite_regs : (s.busWrite addr v).regs = s.regs := (busWrite_frame s addr v).1
@[simp] theorem busWrite_flags : (s.busWrite addr v).flags = s.flags :=
  (busWrite_frame s addr v).2.1
@[simp] theorem busWrite_sp : (s.busWrite addr v).sp = s.sp := (busWrite_frame s addr v).2.2.1
@[simp] theorem busWrite_pc : (s.busWrite addr v).pc = s.pc := (busWrite_frame s addr v).2.2.2.1
@[simp] theorem busWrite_ime : (s.busWrite addr v).irq.ime = s.irq.ime :=
  (busWrite_frame s addr v).2.2.2.2.1
@[simp] theorem busWrite_eiDelay : (s.busWrite addr v).irq.eiDelay = s.irq.eiDelay :=
  (busWrite_frame s addr v).2.2.2.2.2.1
@[simp] theorem busWrite_halted : (s.busWrite addr v).halted = s.halted :=
  (busWrite_frame s addr v).2.2.2.2.2.2.1
@[simp] theorem busWrite_running : (s.busWrite addr v).running = s.running :=
  (busWrite_frame s addr v).2.2.2.2.2.2.2.1
@[simp] theorem busWrite_fault : (s.busWrite addr v).fault = s.fault :=
  (busWrite_frame s addr v).2.2.2.2.2.2.2.2.1
@[simp] theorem busWrite_rom : (s.busWrite addr v).cart.rom = s.cart.rom :=
  (busWrite_frame s addr v).2.2.2.2.2.2.2.2.2.1
@[simp] theorem busWrite_romLen : (s.busWrite addr v).cart.romLen = s.cart.romLen :=
  (busWrite_frame s addr v).2.2.2.2.2.2.2.2.2.2.1
@[simp] theorem busWrite_family : (s.busWrite addr v).cart.family = s.cart.family :=
  (busWrite_frame s addr v).2.2.2.2.2.2.2.2.2.2.2.1
@[simp] theorem busWrite_diag : (s.busWrite addr v).cart.diag = s.cart.diag :=
  (busWrite_frame s addr v).2.2.2.2.2.2.2.2.2.2.2.2.1
@[simp] theorem busWrite_env : (s.busWrite addr v).env = s.env :=
  (busWrite_frame s addr v).2.2.2.2.2.2.2.2.2.2.2.2.2
@[simp] theorem busWrite_reg (r : Reg8) : (s.busWrite addr v).reg r = s.reg r := by
  cases r <;> simp [State.reg]
@[simp] theorem busWrite_hl : (s.busWrite addr v).hl = s.hl := by simp [State.hl]

/-- Above the bank-control range a bus write leaves the bank registers alone. -/
theorem busWrite_bank (h : ¬addr.toNat < 0x8000) : (s.busWrite addr v).bank = s.bank := by
  rcases busWrite_cases s addr v with ⟨h', e⟩ | ⟨_, _, _, e⟩ | ⟨_, a, _, e⟩ | ⟨_, _, e⟩
  · exact absurd h' h
  · rw [e]
  · rw [e]
    exact (writeFlat_frame s a v).2.2.2.2.2.2.2.2.2.1
  · rw [e]

end

/-- The decode of an address depends on the family, the bank registers and the ROM's length alone. -/
theorem cellAt_congr {s t : State} (hf : t.cart.family = s.cart.family)
    (hb : t.bank = s.bank) (hl : t.cart.romLen = s.cart.romLen) (addr : Word) :
    t.cellAt addr = s.cellAt addr := by
  simp [State.cellAt, State.romIndex, State.ramIndex, State.effRamBank, hf, hb, hl]

/-- Above the bank-control range a bus write leaves every address naming the cell it named. -/
theorem cellAt_busWrite (s : State) {addr : Word} (v : Byte) (h : ¬addr.toNat < 0x8000)
    (b : Word) : (s.busWrite addr v).cellAt b = s.cellAt b :=
  cellAt_congr (busWrite_family s addr v) (busWrite_bank s addr v h) (busWrite_romLen s addr v) b

/-- A store to the flat array leaves every other flat byte. -/
theorem readFlat_writeFlat_other (s : State) {a b : Nat} (v : Byte) (h : b ≠ a) :
    (s.writeFlat a v).readFlat b = s.readFlat b := by
  unfold State.writeFlat
  repeat' split
  all_goals first
    | (rename_i e; subst e; simp [State.readFlat, h])
    | simp [State.readFlat, Memory.get_set_other _ _ h]

/-- A flat byte reads as stored, DIV aside. -/
theorem readFlat_writeFlat_same (s : State) {a : Nat} (v : Byte) (h : a ≠ 0xFF04) :
    (s.writeFlat a v).readFlat a = v := by
  unfold State.writeFlat
  repeat' split
  all_goals simp_all [State.readFlat]

/-- A bus write leaves every cell but the one its address names. -/
theorem readCell_busWrite_other (s : State) {addr : Word} (v : Byte) {cell : Cell}
    (h : cell ≠ s.cellAt addr) : (s.busWrite addr v).readCell cell = s.readCell cell := by
  rcases busWrite_cases s addr v with ⟨_, e⟩ | ⟨_, i, hc, e⟩ | ⟨_, a, hc, e⟩ | ⟨_, _, e⟩
  · rw [e]
    cases cell <;> rfl
  · rw [e]
    cases cell with
    | ram j =>
      have hj : j ≠ i := fun hj => h (hj ▸ hc.symm)
      simp [State.readCell, Memory.get_set_other _ _ hj]
    | rom j => rfl
    | flat j => rfl
    | openBus => rfl
  · rw [e]
    obtain ⟨-, -, -, -, -, -, -, -, -, -, hcart, henv⟩ := writeFlat_frame s a v
    cases cell with
    | flat b =>
      have hb : b ≠ a := fun hb => h (hb ▸ hc.symm)
      exact readFlat_writeFlat_other s v hb
    | rom j => simp [State.readCell, hcart]
    | ram j => simp [State.readCell, hcart, henv]
    | openBus => rfl
  · rw [e]

/-- The cell a bus write names reads as written, unless the write was a bank command, was dropped, or
reset DIV. -/
theorem readCell_busWrite_same (s : State) {addr : Word} (v : Byte) (h : ¬addr.toNat < 0x8000)
    (ho : s.cellAt addr ≠ .openBus) (hd : s.cellAt addr ≠ .flat 0xFF04) :
    (s.busWrite addr v).readCell (s.cellAt addr) = v := by
  rcases busWrite_cases s addr v with ⟨h', e⟩ | ⟨_, i, hc, e⟩ | ⟨_, a, hc, e⟩ | ⟨_, hc, e⟩
  · exact absurd h' h
  · rw [e, hc]
    simp [State.readCell]
  · rw [e, hc]
    have ha : a ≠ 0xFF04 := fun ha => hd (ha ▸ hc)
    exact readFlat_writeFlat_same s v ha
  · exact absurd hc ho

/-! The stack. -/

/-- A push is two bus writes, high byte first, and moves SP by two. -/
theorem push_eq (s : State) (v : Word) :
    s.push v =
      ((s.setSp (s.sp - 1)).busWrite (s.sp - 1) (hiByte v) |>.setSp (s.sp - 2)).busWrite
        (s.sp - 2) (loByte v) := by
  have h : s.sp - 1#16 - 1#16 = s.sp - 2#16 := by bv_omega
  simp [State.push, h]

section
variable (s : State) (v : Word)

@[simp] theorem push_regs : (s.push v).regs = s.regs := by simp [State.push]
@[simp] theorem push_flags : (s.push v).flags = s.flags := by simp [State.push]
@[simp] theorem push_pc : (s.push v).pc = s.pc := by simp [State.push]
@[simp] theorem push_ime : (s.push v).irq.ime = s.irq.ime := by simp [State.push]
@[simp] theorem push_eiDelay : (s.push v).irq.eiDelay = s.irq.eiDelay := by simp [State.push]
@[simp] theorem push_halted : (s.push v).halted = s.halted := by simp [State.push]
@[simp] theorem push_running : (s.push v).running = s.running := by simp [State.push]
@[simp] theorem push_fault : (s.push v).fault = s.fault := by simp [State.push]
@[simp] theorem push_rom : (s.push v).cart.rom = s.cart.rom := by simp [State.push]
@[simp] theorem push_romLen : (s.push v).cart.romLen = s.cart.romLen := by simp [State.push]
@[simp] theorem push_family : (s.push v).cart.family = s.cart.family := by simp [State.push]
@[simp] theorem push_diag : (s.push v).cart.diag = s.cart.diag := by simp [State.push]
@[simp] theorem push_env : (s.push v).env = s.env := by simp [State.push]
@[simp] theorem push_sp : (s.push v).sp = s.sp - 2 := by simp [push_eq]

@[simp] theorem popped_sp : s.popped.sp = s.sp + 2 := rfl

end

/-- A bus write neither reads nor writes registers, flags, SP, PC, IME, eiDelay, halted: changing
them before or after it is the same. -/
theorem busWrite_comm (s : State) (r : Regs) (f : Flags) (sp pc : Word) (ime h : Bool) (n : Nat)
    (addr : Word) (v : Byte) :
    ({ s with
      regs := r, flags := f, sp := sp, pc := pc, halted := h, irq.ime := ime,
      irq.eiDelay := n } : State).busWrite addr v =
    { s.busWrite addr v with
      regs := r, flags := f, sp := sp, pc := pc, halted := h, irq.ime := ime,
      irq.eiDelay := n } := by
  unfold State.busWrite
  split
  · rfl
  · generalize ht : ({ s with
      regs := r, flags := f, sp := sp, pc := pc, halted := h, irq.ime := ime,
      irq.eiDelay := n } : State) = t
    have hc : t.cellAt addr = s.cellAt addr := by
      subst ht
      rfl
    rw [hc]
    subst ht
    cases s.cellAt addr with
    | flat a =>
      simp only [State.writeFlat]
      (repeat' split) <;> rfl
    | _ => rfl

/-- Changing SP before or after a bus write is the same. -/
theorem busWrite_setSp (s : State) (w addr : Word) (v : Byte) :
    (s.setSp w).busWrite addr v = (s.busWrite addr v).setSp w := by
  refine (busWrite_comm s s.regs s.flags w s.pc s.irq.ime s.halted s.irq.eiDelay addr v).trans ?_
  simp only [State.setSp]
  congr 1
  · simp
  · simp
  · simp
  · rw [← busWrite_ime s addr v, ← busWrite_eiDelay s addr v]
  · simp

/-- Changing PC before or after a bus write is the same. -/
theorem busWrite_setPc (s : State) (w addr : Word) (v : Byte) :
    (s.setPc w).busWrite addr v = (s.busWrite addr v).setPc w := by
  refine (busWrite_comm s s.regs s.flags s.sp w s.irq.ime s.halted s.irq.eiDelay addr v).trans ?_
  simp only [State.setPc]
  congr 1
  · simp
  · simp
  · simp
  · rw [← busWrite_ime s addr v, ← busWrite_eiDelay s addr v]
  · simp

/-- Changing PC before or after a push is the same. -/
theorem push_setPc (s : State) (w v : Word) : (s.setPc w).push v = (s.push v).setPc w := by
  simp only [push_eq, busWrite_setSp, busWrite_setPc, setPc_sp]
  rfl

/-- Storage reads by the storage alone. -/
theorem readCell_congr {s t : State} (hc : t.cart = s.cart) (hm : t.mem = s.mem)
    (ht : t.timer = s.timer) (hi : t.irq.ifr = s.irq.ifr) (he : t.irq.ie = s.irq.ie)
    (hv : t.env = s.env) (cell : Cell) : t.readCell cell = s.readCell cell := by
  cases cell <;> simp [State.readCell, State.readFlat, hc, hm, ht, hi, he, hv]

/-- A bus read depends on the storage and the bank registers alone. -/
theorem busRead_congr {s t : State} (hc : t.cart = s.cart) (hb : t.bank = s.bank)
    (hm : t.mem = s.mem) (ht : t.timer = s.timer) (hi : t.irq.ifr = s.irq.ifr)
    (he : t.irq.ie = s.irq.ie) (hv : t.env = s.env) (addr : Word) :
    t.busRead addr = s.busRead addr := by
  unfold State.busRead
  rw [cellAt_congr (by rw [hc]) hb (by rw [hc])]
  exact readCell_congr hc hm ht hi he hv _

/-- Two bus writes to neighbouring addresses leave every cell but the two that the addresses name
before them: a bank command in the first moves the second to no other cell. -/
theorem readCell_busWrite_two (s : State) (v w : Byte) {a b : Word} {cell : Cell}
    (hn : b = a + 1 ∨ b = a - 1) (h1 : cell ≠ s.cellAt a) (h2 : cell ≠ s.cellAt b) :
    ((s.busWrite a v).busWrite b w).readCell cell = s.readCell cell := by
  by_cases hb : b.toNat < 0x8000
  · have e : ((s.busWrite a v).busWrite b w).readCell cell = (s.busWrite a v).readCell cell := by
      rcases busWrite_cases (s.busWrite a v) b w with ⟨_, e⟩ | ⟨h', _⟩ | ⟨h', _⟩ | ⟨h', _⟩
      · rw [e]
        cases cell <;> rfl
      all_goals exact absurd hb h'
    rw [e]
    exact readCell_busWrite_other s v h1
  · have hc : (s.busWrite a v).cellAt b = s.cellAt b := by
      by_cases ha : a.toNat < 0x8000
      · have hx : b.toNat = 0x8000 ∨ b.toNat = 0xFFFF := by
          rcases hn with rfl | rfl
          · have : (a + 1).toNat = (a.toNat + 1) % 65536 := by simp
            omega
          · have : (a - 1).toNat = (a.toNat + 65535) % 65536 := by
              simp [BitVec.toNat_sub]
              omega
            omega
        unfold State.cellAt
        rcases hx with hx | hx <;> simp [hx]
      · exact cellAt_busWrite s v ha b
    rw [← hc] at h2
    rw [readCell_busWrite_other _ w h2]
    exact readCell_busWrite_other s v h1

/-- A push changes at most the two cells it stores to. -/
theorem readCell_push_other (s : State) (v : Word) {cell : Cell} (h1 : cell ≠ s.cellAt (s.sp - 1))
    (h2 : cell ≠ s.cellAt (s.sp - 2)) : (s.push v).readCell cell = s.readCell cell := by
  have e : s.sp - 2#16 = s.sp - 1#16 - 1#16 := by bv_omega
  have h := readCell_busWrite_two s (hiByte v) (loByte v) (.inr e) h1 h2
  rw [push_eq, busWrite_setSp, busWrite_setSp, busWrite_setSp]
  rw [← h]
  generalize (s.busWrite (s.sp - 1) (hiByte v)).busWrite (s.sp - 2) (loByte v) = t
  cases cell <;> rfl

end Sys2Proof.Machine
end

