-- ==== Sys2Proof/Laws/Forms.lean ====
section
/-!
SUPPORT. What executing a form of the opcode tables is: the shared operation of its family, whichever
constructor the form names. A proof over a family cites one of these and never opens `exec`.
-/
namespace Sys2Proof.Machine

theorem exec_alu (op : AluOp) (src : Src) (s : State) :
    exec (Form.alu op src) s = aluOn op src s := by
  cases op <;> rcases src with (_ | _) | _ <;> first | rfl | (rename_i r; cases r <;> rfl)

theorem exec_inc (o : Operand8) (s : State) : exec (Form.inc o) s = incOn o s := by
  rcases o with r | _
  · cases r <;> rfl
  · rfl

theorem exec_dec (o : Operand8) (s : State) : exec (Form.dec o) s = decOn o s := by
  rcases o with r | _
  · cases r <;> rfl
  · rfl

theorem exec_addHL (p : Pair) (s : State) : exec (Form.addHL p) s = addHLOn p s := by
  cases p <;> rfl

theorem exec_incPair (p : Pair) (s : State) : exec (Form.incPair p) s = incPairOn p s := by
  cases p <;> rfl

theorem exec_decPair (p : Pair) (s : State) : exec (Form.decPair p) s = decPairOn p s := by
  cases p <;> rfl

theorem exec_rot (op : RotOp) (o : Operand8) (s : State) :
    exec (Form.rot op o) s = rotateOn op o s := by
  rcases o with r | _
  · cases op <;> cases r <;> rfl
  · cases op <;> rfl

theorem exec_bit (b : Fin 8) (o : Operand8) (s : State) :
    exec (Form.bit b o) s = bitOn b o s := by
  rcases o with r | _
  · cases r <;> (fin_cases b <;> rfl)
  · fin_cases b <;> rfl

theorem exec_res (b : Fin 8) (o : Operand8) (s : State) :
    exec (Form.res b o) s = resOn b o s := by
  rcases o with r | _
  · cases r <;> (fin_cases b <;> rfl)
  · fin_cases b <;> rfl

theorem exec_set (b : Fin 8) (o : Operand8) (s : State) :
    exec (Form.set b o) s = setOn b o s := by
  rcases o with r | _
  · cases r <;> (fin_cases b <;> rfl)
  · fin_cases b <;> rfl

theorem exec_ldRegReg (dst src : Reg8) (s : State) :
    exec (Form.ldRegReg dst src) s = loadRegReg dst src s := by
  cases dst <;> cases src <;> rfl

theorem exec_ldRegMem (dst : Reg8) (s : State) : exec (Form.ldRegMem dst) s = loadRegMem dst s := by
  cases dst <;> rfl

theorem exec_ldMemReg (src : Reg8) (s : State) : exec (Form.ldMemReg src) s = loadMemReg src s := by
  cases src <;> rfl

theorem exec_ldImm (o : Operand8) (n : Byte) (s : State) :
    exec (Form.ldImm o n) s = loadImm o n s := by
  rcases o with r | _
  · cases r <;> rfl
  · rfl

theorem exec_ldAMem (p : PairMem) (s : State) : exec (Form.ldAMem p) s = loadAMem p s := by
  cases p <;> rfl

theorem exec_ldMemA (p : PairMem) (s : State) : exec (Form.ldMemA p) s = loadMemA p s := by
  cases p <;> rfl

theorem exec_ldPairImm (p : Pair) (n : Word) (s : State) :
    exec (Form.ldPairImm p n) s = .next ((s.advance 3).setPair p n) := by
  cases p <;> rfl

theorem exec_push (p : StackPair) (s : State) : exec (Form.push p) s = pushOn p s := by
  cases p <;> rfl

theorem exec_pop (p : StackPair) (s : State) : exec (Form.pop p) s = popOn p s := by
  cases p <;> rfl

theorem exec_jrCond (cc : Cond) (e : Byte) (s : State) :
    exec (Form.jrCond cc e) s = jumpRelativeIf cc e s := by
  cases cc <;> rfl

theorem exec_jpCond (cc : Cond) (n : Word) (s : State) :
    exec (Form.jpCond cc n) s = jumpIf cc n s := by
  cases cc <;> rfl

theorem exec_callCond (cc : Cond) (n : Word) (s : State) :
    exec (Form.callCond cc n) s = callIf cc n s := by
  cases cc <;> rfl

theorem exec_retCond (cc : Cond) (s : State) : exec (Form.retCond cc) s = returnIf cc s := by
  cases cc <;> rfl

theorem exec_rst (y : Fin 8) (s : State) :
    exec (Form.rst y) s = .next ((s.advance 1).doCall (BitVec.ofNat 16 (8 * y.val))) := by
  fin_cases y <;> rfl

end Sys2Proof.Machine
end

