-- ==== Sys2Proof/Laws/Exec.lean ====
section
/-!
SUPPORT. What executing an instruction can do, said once: every instruction answers a next state,
and, but for an unused opcode's fault, reaches it by bus writes and by changes of registers, flags,
SP, PC, IME, eiDelay and halted alone.
-/
namespace Sys2Proof.Machine

/-- `t` differs from `s` at most in registers, flags, SP, PC, IME, eiDelay and halted. -/
structure SameStorage (s t : State) : Prop where
  ifr : t.irq.ifr = s.irq.ifr
  ie : t.irq.ie = s.irq.ie
  timer : t.timer = s.timer
  bank : t.bank = s.bank
  cart : t.cart = s.cart
  mem : t.mem = s.mem
  env : t.env = s.env
  running : t.running = s.running
  fault : t.fault = s.fault
  eiDelay : t.irq.eiDelay = s.irq.eiDelay ∨ t.irq.eiDelay = 0 ∨ t.irq.eiDelay = 2

/-- `P` is kept by bus writes and by changes of registers and control state: what a proof by
`exec_keeps` shows of its property. -/
structure Kept (P : State → Prop) : Prop where
  write : ∀ s a v, P s → P (s.busWrite a v)
  same : ∀ s t, SameStorage s t → P s → P t

section
variable {P : State → Prop} (K : Kept P) {s : State}
include K

theorem Kept.advance (h : P s) (n : Nat) : P (s.advance n) :=
  K.same s _ ⟨rfl, rfl, rfl, rfl, rfl, rfl, rfl, rfl, rfl, .inl rfl⟩ h

theorem Kept.setA (h : P s) (v : Byte) : P (s.setA v) :=
  K.same s _ ⟨rfl, rfl, rfl, rfl, rfl, rfl, rfl, rfl, rfl, .inl rfl⟩ h

theorem Kept.setFlags (h : P s) (f : Flags) : P (s.setFlags f) :=
  K.same s _ ⟨rfl, rfl, rfl, rfl, rfl, rfl, rfl, rfl, rfl, .inl rfl⟩ h

theorem Kept.setPc (h : P s) (v : Word) : P (s.setPc v) :=
  K.same s _ ⟨rfl, rfl, rfl, rfl, rfl, rfl, rfl, rfl, rfl, .inl rfl⟩ h

theorem Kept.setSp (h : P s) (v : Word) : P (s.setSp v) :=
  K.same s _ ⟨rfl, rfl, rfl, rfl, rfl, rfl, rfl, rfl, rfl, .inl rfl⟩ h

theorem Kept.setHL (h : P s) (v : Word) : P (s.setHL v) :=
  K.same s _ ⟨rfl, rfl, rfl, rfl, rfl, rfl, rfl, rfl, rfl, .inl rfl⟩ h

theorem Kept.setReg (h : P s) (r : Reg8) (v : Byte) : P (s.setReg r v) := by
  refine K.same s _ ?_ h
  cases r <;> exact ⟨rfl, rfl, rfl, rfl, rfl, rfl, rfl, rfl, rfl, .inl rfl⟩

theorem Kept.setPair (h : P s) (p : Pair) (v : Word) : P (s.setPair p v) := by
  refine K.same s _ ?_ h
  cases p <;> exact ⟨rfl, rfl, rfl, rfl, rfl, rfl, rfl, rfl, rfl, .inl rfl⟩

theorem Kept.setStackPair (h : P s) (p : StackPair) (v : Word) : P (s.setStackPair p v) := by
  refine K.same s _ ?_ h
  cases p <;> exact ⟨rfl, rfl, rfl, rfl, rfl, rfl, rfl, rfl, rfl, .inl rfl⟩

theorem Kept.writeOp (h : P s) (o : Operand8) (v : Byte) : P (s.writeOp o v) := by
  cases o with
  | reg r => exact K.setReg h r v
  | memHL => exact K.write s _ v h

theorem Kept.memStep (h : P s) (p : PairMem) : P (s.memStep p) := by
  cases p
  · exact h
  · exact h
  · exact K.setHL h _
  · exact K.setHL h _

theorem Kept.push (h : P s) (v : Word) : P (s.push v) :=
  K.write _ _ _ (K.setSp (K.write _ _ _ (K.setSp h _)) _)

theorem Kept.doCall (h : P s) (v : Word) : P (s.doCall v) := K.setPc (K.push h _) _

theorem Kept.doReturn (h : P s) : P s.doReturn := K.setPc (K.setSp h _) _

/-- A dispatch is a push between changes of control state and of IF: with IF's bit cleared first, it
keeps what bus writes and register changes keep. -/
theorem Kept.dispatch (k : Fin 5)
    (h : P { s with irq.ifr := s.irq.ifr &&& ~~~(BitVec.twoPow 8 k.val) }) :
    P (s.dispatch k) := by
  have h1 := K.same
    { s with irq.ifr := s.irq.ifr &&& ~~~(BitVec.twoPow 8 k.val) }
    { s with
      irq.ifr := s.irq.ifr &&& ~~~(BitVec.twoPow 8 k.val)
      irq.ime := false
      irq.eiDelay := 0
      halted := false }
    ⟨rfl, rfl, rfl, rfl, rfl, rfl, rfl, rfl, rfl, .inr (.inl rfl)⟩ h
  exact K.setPc (K.push h1 s.pc) (vectorOf k)

end

/-- Answers a next state that has `P`. -/
def AnswersWith (P : State → Prop) (r : Result) : Prop := ∃ t, r = .next t ∧ P t

section
variable {P : State → Prop} (K : Kept P) {s : State} (h : P s)
include K h

theorem keeps_aluOn (op : AluOp) (src : Src) : AnswersWith P (aluOn op src s) :=
  ⟨_, rfl, K.setFlags (K.setA (K.advance h _) _) _⟩

theorem keeps_incOn (o : Operand8) : AnswersWith P (incOn o s) :=
  ⟨_, rfl, K.setFlags (K.writeOp (K.advance h _) _ _) _⟩

theorem keeps_decOn (o : Operand8) : AnswersWith P (decOn o s) :=
  ⟨_, rfl, K.setFlags (K.writeOp (K.advance h _) _ _) _⟩

theorem keeps_addHLOn (p : Pair) : AnswersWith P (addHLOn p s) :=
  ⟨_, rfl, K.setFlags (K.setHL (K.advance h _) _) _⟩

theorem keeps_incPairOn (p : Pair) : AnswersWith P (incPairOn p s) :=
  ⟨_, rfl, K.setPair (K.advance h _) _ _⟩

theorem keeps_decPairOn (p : Pair) : AnswersWith P (decPairOn p s) :=
  ⟨_, rfl, K.setPair (K.advance h _) _ _⟩

theorem keeps_rotateAOn (op : RotOp) : AnswersWith P (rotateAOn op s) :=
  ⟨_, rfl, K.setFlags (K.setA (K.advance h _) _) _⟩

theorem keeps_rotateOn (op : RotOp) (o : Operand8) : AnswersWith P (rotateOn op o s) :=
  ⟨_, rfl, K.setFlags (K.writeOp (K.advance h _) _ _) _⟩

theorem keeps_bitOn (b : Fin 8) (o : Operand8) : AnswersWith P (bitOn b o s) :=
  ⟨_, rfl, K.setFlags (K.advance h _) _⟩

theorem keeps_resOn (b : Fin 8) (o : Operand8) : AnswersWith P (resOn b o s) :=
  ⟨_, rfl, K.writeOp (K.advance h _) _ _⟩

theorem keeps_setOn (b : Fin 8) (o : Operand8) : AnswersWith P (setOn b o s) :=
  ⟨_, rfl, K.writeOp (K.advance h _) _ _⟩

theorem keeps_loadRegReg (dst src : Reg8) : AnswersWith P (loadRegReg dst src s) :=
  ⟨_, rfl, K.setReg (K.advance h _) _ _⟩

theorem keeps_loadImm (o : Operand8) (n : Byte) : AnswersWith P (loadImm o n s) :=
  ⟨_, rfl, K.writeOp (K.advance h _) _ _⟩

theorem keeps_loadRegMem (dst : Reg8) : AnswersWith P (loadRegMem dst s) :=
  ⟨_, rfl, K.setReg (K.advance h _) _ _⟩

theorem keeps_loadMemReg (src : Reg8) : AnswersWith P (loadMemReg src s) :=
  ⟨_, rfl, K.write _ _ _ (K.advance h _)⟩

theorem keeps_loadAMem (p : PairMem) : AnswersWith P (loadAMem p s) :=
  ⟨_, rfl, K.memStep (K.setA (K.advance h _) _) _⟩

theorem keeps_loadMemA (p : PairMem) : AnswersWith P (loadMemA p s) :=
  ⟨_, rfl, K.memStep (K.write _ _ _ (K.advance h _)) _⟩

theorem keeps_pushOn (p : StackPair) : AnswersWith P (pushOn p s) :=
  ⟨_, rfl, K.push (K.advance h _) _⟩

theorem keeps_popOn (p : StackPair) : AnswersWith P (popOn p s) :=
  ⟨_, rfl, K.setStackPair (K.setSp (K.advance h _) _) _ _⟩

theorem keeps_jumpIf (cc : Cond) (n : Word) : AnswersWith P (jumpIf cc n s) := by
  refine ⟨_, rfl, ?_⟩
  split
  · exact K.setPc (K.advance h _) _
  · exact K.advance h _

theorem keeps_jumpRelativeIf (cc : Cond) (e : Byte) : AnswersWith P (jumpRelativeIf cc e s) := by
  refine ⟨_, rfl, ?_⟩
  split
  · exact K.setPc (K.advance h _) _
  · exact K.advance h _

theorem keeps_callIf (cc : Cond) (n : Word) : AnswersWith P (callIf cc n s) := by
  refine ⟨_, rfl, ?_⟩
  split
  · exact K.doCall (K.advance h _) _
  · exact K.advance h _

theorem keeps_returnIf (cc : Cond) : AnswersWith P (returnIf cc s) := by
  refine ⟨_, rfl, ?_⟩
  split
  · exact K.doReturn (K.advance h _)
  · exact K.advance h _

/-- A property kept by bus writes and by changes of registers and control state is kept by every
instruction of an opcode that is used; and every such instruction answers a next state. -/
theorem exec_keeps (i : Instr) (hw : wellFormed i = true) : AnswersWith P (exec i s) := by
  cases i with
  | ld_bc_n16 =>
    exact ⟨_, rfl, K.setPair (K.advance h _) .bc _⟩
  | ld_b_n8 | ld_c_n8 | ld_d_n8 | ld_e_n8 | ld_h_n8 | ld_l_n8 | ld_mHL_n8 | ld_a_n8 =>
    exact keeps_loadImm K h _ _
  | ld_mN16_sp =>
    exact ⟨_, rfl, K.write _ _ _ (K.write _ _ _ (K.advance h _))⟩
  | nop =>
    exact ⟨_, rfl, K.advance h _⟩
  | stop =>
    exact ⟨_, rfl, K.advance h _⟩
  | ld_de_n16 =>
    exact ⟨_, rfl, K.setPair (K.advance h _) .de _⟩
  | jp_hl =>
    exact ⟨_, rfl, K.setPc (K.advance h _) _⟩
  | jr_e8 | jp_n16 =>
    exact ⟨_, rfl, K.setPc (K.advance h _) _⟩
  | jr_nz_e8 | jr_z_e8 | jr_nc_e8 | jr_c_e8 =>
    exact keeps_jumpRelativeIf K h _ _
  | ld_hl_n16 =>
    exact ⟨_, rfl, K.setPair (K.advance h _) .hl _⟩
  | ld_sp_n16 =>
    exact ⟨_, rfl, K.setPair (K.advance h _) .sp _⟩
  | jp_nz_n16 | jp_z_n16 | jp_nc_n16 | jp_c_n16 =>
    exact keeps_jumpIf K h _ _
  | call_nz_n16 | call_z_n16 | call_nc_n16 | call_c_n16 =>
    exact keeps_callIf K h _ _
  | add_a_b | add_a_c | add_a_d | add_a_e | add_a_h | add_a_l | add_a_mHL | add_a_a | adc_a_b |
  adc_a_c | adc_a_d | adc_a_e | adc_a_h | adc_a_l | adc_a_mHL | adc_a_a | sub_b | sub_c | sub_d |
  sub_e | sub_h | sub_l | sub_mHL | sub_a | sbc_a_b | sbc_a_c | sbc_a_d | sbc_a_e | sbc_a_h |
  sbc_a_l | sbc_a_mHL | sbc_a_a | and_b | and_c | and_d | and_e | and_h | and_l | and_mHL | and_a
  | xor_b | xor_c | xor_d | xor_e | xor_h | xor_l | xor_mHL | xor_a | or_b | or_c | or_d | or_e |
  or_h | or_l | or_mHL | or_a | cp_b | cp_c | cp_d | cp_e | cp_h | cp_l | cp_mHL | cp_a =>
    exact keeps_aluOn K h _ _
  | add_a_n8 | adc_a_n8 | sub_n8 | sbc_a_n8 | and_n8 | xor_n8 | or_n8 | cp_n8 =>
    exact keeps_aluOn K h _ _
  | rst_00 | rst_08 | rst_10 | rst_18 | rst_20 | rst_28 | rst_30 | rst_38 =>
    exact ⟨_, rfl, K.doCall (K.advance h _) _⟩
  | call_n16 =>
    exact ⟨_, rfl, K.doCall (K.advance h _) _⟩
  | ld_mC_a =>
    exact ⟨_, rfl, K.write _ _ _ (K.advance h _)⟩
  | ldh_mN8_a | ld_mN16_a =>
    exact ⟨_, rfl, K.write _ _ _ (K.advance h _)⟩
  | add_sp_e8 =>
    exact ⟨_, rfl, K.setFlags (K.setSp (K.advance h _) _) _⟩
  | ld_a_mC =>
    exact ⟨_, rfl, K.setA (K.advance h _) _⟩
  | ldh_a_mN8 | ld_a_mN16 =>
    exact ⟨_, rfl, K.setA (K.advance h _) _⟩
  | ld_hl_sp_e8 =>
    exact ⟨_, rfl, K.setFlags (K.setHL (K.advance h _) _) _⟩
  | ld_mBC_a | ld_mDE_a | ld_mHLi_a | ld_mHLd_a =>
    exact keeps_loadMemA K h _
  | inc_bc | inc_de | inc_hl | inc_sp =>
    exact keeps_incPairOn K h _
  | inc_b | inc_c | inc_d | inc_e | inc_h | inc_l | inc_mHL | inc_a =>
    exact keeps_incOn K h _
  | dec_b | dec_c | dec_d | dec_e | dec_h | dec_l | dec_mHL | dec_a =>
    exact keeps_decOn K h _
  | rlca | rrca | rla | rra =>
    exact keeps_rotateAOn K h _
  | add_hl_bc | add_hl_de | add_hl_hl | add_hl_sp =>
    exact keeps_addHLOn K h _
  | ld_a_mBC | ld_a_mDE | ld_a_mHLi | ld_a_mHLd =>
    exact keeps_loadAMem K h _
  | dec_bc | dec_de | dec_hl | dec_sp =>
    exact keeps_decPairOn K h _
  | daa | cpl =>
    exact ⟨_, rfl, K.setFlags (K.setA (K.advance h _) _) _⟩
  | scf | ccf =>
    exact ⟨_, rfl, K.setFlags (K.advance h _) _⟩
  | ld_b_b | ld_b_c | ld_b_d | ld_b_e | ld_b_h | ld_b_l | ld_b_a | ld_c_b | ld_c_c | ld_c_d |
  ld_c_e | ld_c_h | ld_c_l | ld_c_a | ld_d_b | ld_d_c | ld_d_d | ld_d_e | ld_d_h | ld_d_l | ld_d_a
  | ld_e_b | ld_e_c | ld_e_d | ld_e_e | ld_e_h | ld_e_l | ld_e_a | ld_h_b | ld_h_c | ld_h_d |
  ld_h_e | ld_h_h | ld_h_l | ld_h_a | ld_l_b | ld_l_c | ld_l_d | ld_l_e | ld_l_h | ld_l_l | ld_l_a
  | ld_a_b | ld_a_c | ld_a_d | ld_a_e | ld_a_h | ld_a_l | ld_a_a =>
    exact keeps_loadRegReg K h _ _
  | ld_b_mHL | ld_c_mHL | ld_d_mHL | ld_e_mHL | ld_h_mHL | ld_l_mHL | ld_a_mHL =>
    exact keeps_loadRegMem K h _
  | ld_mHL_b | ld_mHL_c | ld_mHL_d | ld_mHL_e | ld_mHL_h | ld_mHL_l | ld_mHL_a =>
    exact keeps_loadMemReg K h _
  | halt | reti =>
    exact ⟨_, rfl, K.same s _ ⟨rfl, rfl, rfl, rfl, rfl, rfl, rfl, rfl, rfl, .inl rfl⟩ h⟩
  | ret_nz | ret_z | ret_nc | ret_c =>
    exact keeps_returnIf K h _
  | pop_bc | pop_de | pop_hl | pop_af =>
    exact keeps_popOn K h _
  | push_bc | push_de | push_hl | push_af =>
    exact keeps_pushOn K h _
  | ret =>
    exact ⟨_, rfl, K.doReturn (K.advance h _)⟩
  | illegal_d3 | illegal_db | illegal_dd | illegal_e3 | illegal_e4 | illegal_eb | illegal_ec |
  illegal_ed | illegal_f4 | illegal_fc | illegal_fd => exact absurd hw (by decide)
  | di =>
    exact ⟨_, rfl, K.same s _ ⟨rfl, rfl, rfl, rfl, rfl, rfl, rfl, rfl, rfl, .inr (.inl rfl)⟩ h⟩
  | ld_sp_hl =>
    exact ⟨_, rfl, K.setSp (K.advance h _) _⟩
  | ei =>
    exact ⟨_, rfl, K.same s _ ⟨rfl, rfl, rfl, rfl, rfl, rfl, rfl, rfl, rfl, .inr (.inr rfl)⟩ h⟩
  | rlc_b | rlc_c | rlc_d | rlc_e | rlc_h | rlc_l | rlc_mHL | rlc_a | rrc_b | rrc_c | rrc_d |
  rrc_e | rrc_h | rrc_l | rrc_mHL | rrc_a | rl_b | rl_c | rl_d | rl_e | rl_h | rl_l | rl_mHL |
  rl_a | rr_b | rr_c | rr_d | rr_e | rr_h | rr_l | rr_mHL | rr_a | sla_b | sla_c | sla_d | sla_e |
  sla_h | sla_l | sla_mHL | sla_a | sra_b | sra_c | sra_d | sra_e | sra_h | sra_l | sra_mHL |
  sra_a | swap_b | swap_c | swap_d | swap_e | swap_h | swap_l | swap_mHL | swap_a | srl_b | srl_c
  | srl_d | srl_e | srl_h | srl_l | srl_mHL | srl_a =>
    exact keeps_rotateOn K h _ _
  | bit_0_b | bit_0_c | bit_0_d | bit_0_e | bit_0_h | bit_0_l | bit_0_mHL | bit_0_a | bit_1_b |
  bit_1_c | bit_1_d | bit_1_e | bit_1_h | bit_1_l | bit_1_mHL | bit_1_a | bit_2_b | bit_2_c |
  bit_2_d | bit_2_e | bit_2_h | bit_2_l | bit_2_mHL | bit_2_a | bit_3_b | bit_3_c | bit_3_d |
  bit_3_e | bit_3_h | bit_3_l | bit_3_mHL | bit_3_a | bit_4_b | bit_4_c | bit_4_d | bit_4_e |
  bit_4_h | bit_4_l | bit_4_mHL | bit_4_a | bit_5_b | bit_5_c | bit_5_d | bit_5_e | bit_5_h |
  bit_5_l | bit_5_mHL | bit_5_a | bit_6_b | bit_6_c | bit_6_d | bit_6_e | bit_6_h | bit_6_l |
  bit_6_mHL | bit_6_a | bit_7_b | bit_7_c | bit_7_d | bit_7_e | bit_7_h | bit_7_l | bit_7_mHL |
  bit_7_a =>
    exact keeps_bitOn K h _ _
  | res_0_b | res_0_c | res_0_d | res_0_e | res_0_h | res_0_l | res_0_mHL | res_0_a | res_1_b |
  res_1_c | res_1_d | res_1_e | res_1_h | res_1_l | res_1_mHL | res_1_a | res_2_b | res_2_c |
  res_2_d | res_2_e | res_2_h | res_2_l | res_2_mHL | res_2_a | res_3_b | res_3_c | res_3_d |
  res_3_e | res_3_h | res_3_l | res_3_mHL | res_3_a | res_4_b | res_4_c | res_4_d | res_4_e |
  res_4_h | res_4_l | res_4_mHL | res_4_a | res_5_b | res_5_c | res_5_d | res_5_e | res_5_h |
  res_5_l | res_5_mHL | res_5_a | res_6_b | res_6_c | res_6_d | res_6_e | res_6_h | res_6_l |
  res_6_mHL | res_6_a | res_7_b | res_7_c | res_7_d | res_7_e | res_7_h | res_7_l | res_7_mHL |
  res_7_a =>
    exact keeps_resOn K h _ _
  | set_0_b | set_0_c | set_0_d | set_0_e | set_0_h | set_0_l | set_0_mHL | set_0_a | set_1_b |
  set_1_c | set_1_d | set_1_e | set_1_h | set_1_l | set_1_mHL | set_1_a | set_2_b | set_2_c |
  set_2_d | set_2_e | set_2_h | set_2_l | set_2_mHL | set_2_a | set_3_b | set_3_c | set_3_d |
  set_3_e | set_3_h | set_3_l | set_3_mHL | set_3_a | set_4_b | set_4_c | set_4_d | set_4_e |
  set_4_h | set_4_l | set_4_mHL | set_4_a | set_5_b | set_5_c | set_5_d | set_5_e | set_5_h |
  set_5_l | set_5_mHL | set_5_a | set_6_b | set_6_c | set_6_d | set_6_e | set_6_h | set_6_l |
  set_6_mHL | set_6_a | set_7_b | set_7_c | set_7_d | set_7_e | set_7_h | set_7_l | set_7_mHL |
  set_7_a =>
    exact keeps_setOn K h _ _

end

/-- An unused slot takes the fault, with some opcode. -/
theorem exec_unused (i : Instr) (s : State) (h : wellFormed i = false) :
    ∃ op, exec i s = .next (s.raiseFault .illegalOpcode op) := by
  simp only [wellFormed, Bool.not_eq_false', List.contains_iff_mem, illegalSlots,
    List.mem_cons, List.not_mem_nil, or_false] at h
  rcases h with rfl | rfl | rfl | rfl | rfl | rfl | rfl | rfl | rfl | rfl | rfl <;>
    exact ⟨_, rfl⟩

/-- Every instruction answers a next state. -/
theorem exec_answers (i : Instr) (s : State) : ∃ t, exec i s = .next t := by
  cases h : wellFormed i
  · exact ⟨_, (exec_unused i s h).choose_spec⟩
  · obtain ⟨t, ht, -⟩ :=
      exec_keeps (P := fun _ => True) ⟨fun _ _ _ h => h, fun _ _ _ h => h⟩ (s := s) trivial i h
    exact ⟨t, ht⟩

end Sys2Proof.Machine
end

