-- ==== Sys2Proof/Laws/Timer.lean ====
section
/-!
SUPPORT. What advancing the timer can do, said once: the fields it leaves alone, what the divider
comes to, and how often the countdown expires.
-/
namespace Sys2Proof.Machine

/-- TIMA increments change TIMA and IF, nothing else. -/
theorem incTimaTimes_frame (n : Nat) (s : State) :
    incTimaTimes n s =
      { s with
        timer.tima := (incTimaTimes n s).timer.tima
        irq.ifr := (incTimaTimes n s).irq.ifr } := by
  induction n generalizing s with
  | zero => rfl
  | succ n ih =>
    show incTimaTimes n (incTima s) = _
    rw [ih (incTima s)]
    simp only [incTimaTimes]
    unfold incTima
    split <;> rfl

/-- An increment only adds requests to IF. -/
theorem incTimaTimes_ifr (n : Nat) (s : State) (k : Nat) (h : s.irq.ifr.getLsbD k = true) :
    (incTimaTimes n s).irq.ifr.getLsbD k = true := by
  induction n generalizing s with
  | zero => exact h
  | succ n ih =>
    refine ih (incTima s) ?_
    unfold incTima
    split
    · simp [h]
    · exact h

/-- Advancing the timer changes div, divCounter, tima, timaCounter and IF, nothing else. -/
theorem timerAdvance_frame (c : Nat) (s : State) :
    timerAdvance c s =
      { s with
        timer :=
          { s.timer with
            div := (timerAdvance c s).timer.div
            divCounter := (timerAdvance c s).timer.divCounter
            tima := (timerAdvance c s).timer.tima
            timaCounter := (timerAdvance c s).timer.timaCounter }
        irq.ifr := (timerAdvance c s).irq.ifr } := by
  unfold timerAdvance advanceTima
  split
  · simp only []
    rw [incTimaTimes_frame]
    rfl
  · rfl

section
variable (c : Nat) (s : State)

@[simp] theorem timerAdvance_regs : (timerAdvance c s).regs = s.regs := by
  rw [timerAdvance_frame]
@[simp] theorem timerAdvance_flags : (timerAdvance c s).flags = s.flags := by
  rw [timerAdvance_frame]
@[simp] theorem timerAdvance_sp : (timerAdvance c s).sp = s.sp := by rw [timerAdvance_frame]
@[simp] theorem timerAdvance_pc : (timerAdvance c s).pc = s.pc := by rw [timerAdvance_frame]
@[simp] theorem timerAdvance_ime : (timerAdvance c s).irq.ime = s.irq.ime := by
  rw [timerAdvance_frame]
@[simp] theorem timerAdvance_eiDelay : (timerAdvance c s).irq.eiDelay = s.irq.eiDelay := by
  rw [timerAdvance_frame]
@[simp] theorem timerAdvance_ie : (timerAdvance c s).irq.ie = s.irq.ie := by
  rw [timerAdvance_frame]
@[simp] theorem timerAdvance_halted : (timerAdvance c s).halted = s.halted := by
  rw [timerAdvance_frame]
@[simp] theorem timerAdvance_running : (timerAdvance c s).running = s.running := by
  rw [timerAdvance_frame]
@[simp] theorem timerAdvance_fault : (timerAdvance c s).fault = s.fault := by
  rw [timerAdvance_frame]
@[simp] theorem timerAdvance_bank : (timerAdvance c s).bank = s.bank := by
  rw [timerAdvance_frame]
@[simp] theorem timerAdvance_cart : (timerAdvance c s).cart = s.cart := by
  rw [timerAdvance_frame]
@[simp] theorem timerAdvance_mem : (timerAdvance c s).mem = s.mem := by rw [timerAdvance_frame]
@[simp] theorem timerAdvance_env : (timerAdvance c s).env = s.env := by rw [timerAdvance_frame]
@[simp] theorem timerAdvance_tac : (timerAdvance c s).timer.tac = s.timer.tac := by
  rw [timerAdvance_frame]
@[simp] theorem timerAdvance_tma : (timerAdvance c s).timer.tma = s.timer.tma := by
  rw [timerAdvance_frame]
@[simp] theorem timerAdvance_scaler : (timerAdvance c s).timer.scaler = s.timer.scaler := by
  rw [timerAdvance_frame]

/-- The divider part is not touched by the countdown part. -/
theorem timerAdvance_div :
    (timerAdvance c s).timer.div =
        s.timer.div + BitVec.ofNat 8 ((s.timer.divCounter + c) / 256) ∧
      (timerAdvance c s).timer.divCounter = (s.timer.divCounter + c) % 256 := by
  unfold timerAdvance advanceTima
  split
  · simp only []
    rw [incTimaTimes_frame]
    exact ⟨rfl, rfl⟩
  · exact ⟨rfl, rfl⟩

end

/-- A scaler is positive. -/
theorem Scaler.cycles_pos (k : Scaler) : 0 < k.cycles := by cases k <;> decide

/-- After its expiries a countdown is back in 1..period, if it did not start above. -/
theorem expiries_spec (t : Int) {period : Nat} (hp : 0 < period) (ht : t ≤ period) :
    1 ≤ t + expiries t period * period ∧ t + expiries t period * period ≤ period := by
  unfold expiries
  split
  · rename_i h
    have h0 : 0 ≤ -t / period := Int.ediv_nonneg (by omega) (by omega)
    have h1 := Int.mul_ediv_add_emod (-t) period
    have h2 := Int.emod_nonneg (-t) (b := (period : Int)) (by omega)
    have h3 := Int.emod_lt_of_pos (-t) (b := (period : Int)) (by omega)
    have h4 : (((-t / period).toNat + 1 : Nat) : Int) = -t / period + 1 := by omega
    rw [h4, add_mul, mul_comm]
    omega
  · omega

/-- The countdown in its range stays in its range. -/
theorem timerAdvance_countdown (c : Nat) (s : State)
    (h : 1 ≤ s.timer.timaCounter ∧ s.timer.timaCounter ≤ s.timer.scaler.cycles) :
    1 ≤ (timerAdvance c s).timer.timaCounter ∧
      (timerAdvance c s).timer.timaCounter ≤ s.timer.scaler.cycles := by
  unfold timerAdvance advanceTima
  split
  · simp only []
    rw [incTimaTimes_frame]
    exact expiries_spec _ (Scaler.cycles_pos _) (by
      show s.timer.timaCounter - (c : Int) ≤ s.timer.scaler.cycles
      omega)
  · exact h

end Sys2Proof.Machine
end

