-- ==== Sys2Proof/Laws/Step.lean ====
section
/-!
SUPPORT. What a step can do, said once: it always answers a next state, which is the state itself
when the core is stopped, a halted tick, an unused opcode's fault, or an executed instruction with
what follows it; and what the interrupt check makes of a state.
-/
namespace Sys2Proof.Machine

/-- The four ways a step goes. -/
theorem step_cases {s t : State} (h : step s = .next t) :
    (s.running = false ∧ t = s) ∨
    (s.running = true ∧ s.halted = true ∧ t = (endOfStep false haltedCycles s).2) ∨
    (s.running = true ∧ s.halted = false ∧ wellFormed s.fetched = false ∧
      ∃ op, t = s.raiseFault .illegalOpcode op) ∨
    (s.running = true ∧ s.halted = false ∧ wellFormed s.fetched = true ∧
      ∃ u, exec s.fetched s = .next u ∧ t = (endOfStep true (cycles s.fetched s) u).2) := by
  simp only [step, stepState, stepInstruction] at h
  cases hr : s.running
  · rw [if_pos hr] at h
    exact .inl ⟨rfl, (Host.Outcome.next.inj h).symm⟩
  · rw [if_neg (by simp [hr])] at h
    cases hh : s.halted
    · rw [if_neg (by simp [hh])] at h
      cases hw : wellFormed s.fetched
      · obtain ⟨op, e⟩ := exec_unused s.fetched s hw
        rw [e] at h
        simp only [hw] at h
        exact .inr (.inr (.inl ⟨rfl, rfl, rfl, op, (Host.Outcome.next.inj h).symm⟩))
      · obtain ⟨u, e⟩ := exec_answers s.fetched s
        rw [e] at h
        simp only [hw, if_true] at h
        exact .inr (.inr (.inr ⟨rfl, rfl, rfl, u, e, (Host.Outcome.next.inj h).symm⟩))
    · rw [if_pos hh] at h
      exact .inr (.inl ⟨rfl, rfl, (Host.Outcome.next.inj h).symm⟩)

/-- Every step answers a next state. -/
theorem step_answers (s : State) : ∃ t, step s = .next t := by
  simp only [step, stepState, stepInstruction]
  cases s.running
  · exact ⟨_, rfl⟩
  · cases s.halted
    · obtain ⟨u, e⟩ := exec_answers s.fetched s
      rw [e]
      cases wellFormed s.fetched <;> exact ⟨_, rfl⟩
    · exact ⟨_, rfl⟩

/-- The interrupt check: nothing, waking, or waking and a dispatch. -/
theorem interruptCheck_cases (c : Nat) (s : State) :
    (s.pending = none ∧ (interruptCheck c s).2 = s) ∨
    (∃ k, s.pending = some k ∧ s.irq.ime = false ∧
      (interruptCheck c s).2 = { s with halted := false }) ∨
    (∃ k, s.pending = some k ∧ s.irq.ime = true ∧
      (interruptCheck c s).2 = timerAdvance dispatchCycles (s.dispatch k)) := by
  cases hp : s.pending with
  | none => exact .inl ⟨rfl, by simp [interruptCheck, State.wake, hp]⟩
  | some k =>
    have hw : s.wake = { s with halted := false } := by
      cases hh : s.halted
      · simp [State.wake, hp, hh]
        rw [← hh]
      · simp [State.wake, hp, hh]
    have hd : s.wake.pending = some k := by rw [hw]; exact hp
    cases hi : s.irq.ime
    · refine .inr (.inl ⟨k, rfl, rfl, ?_⟩)
      have hi' : s.wake.irq.ime = false := by rw [hw]; exact hi
      simp only [interruptCheck, hi']
      exact hw
    · refine .inr (.inr ⟨k, rfl, rfl, ?_⟩)
      have hi' : s.wake.irq.ime = true := by rw [hw]; exact hi
      simp only [interruptCheck, hi', hd, if_true]
      rw [hw]
      rfl

/-- Counting down the EI delay changes eiDelay and IME, nothing else. -/
theorem eiTick_eq (s : State) :
    s.eiTick =
      { s with
        irq.eiDelay := s.irq.eiDelay - 1
        irq.ime := s.irq.ime || decide (s.irq.eiDelay = 1) } := by
  unfold State.eiTick
  split
  · rename_i h
    simp [h]
    rw [← h]
  · rfl

/-- What a property must be kept by, beside `Kept`, to be kept by every step. -/
structure KeptByStep (P : State → Prop) : Prop extends Kept P where
  /-- the timer advances -/
  timer : ∀ c s, P s → P (timerAdvance c s)
  /-- IF changes, and draws are used up -/
  request : ∀ s f n l, P s →
    P { s with irq.ifr := f, env := { s.env with draws := n, script := l } }
  /-- an EI delay counts down -/
  delay : ∀ s, P s → P s.eiTick
  /-- an unused opcode faults -/
  fault : ∀ s op, P s → P (s.raiseFault .illegalOpcode op)

/-- The check keeps a property that is kept by everything a step does. -/
theorem KeptByStep.check {P : State → Prop} (K : KeptByStep P) (c : Nat) {s : State} (h : P s) :
    P (interruptCheck c s).2 := by
  rcases interruptCheck_cases c s with ⟨_, e⟩ | ⟨k, _, _, e⟩ | ⟨k, _, _, e⟩ <;> rw [e]
  · exact h
  · exact K.same s _ ⟨rfl, rfl, rfl, rfl, rfl, rfl, rfl, rfl, rfl, .inl rfl⟩ h
  · exact K.timer _ _ (K.dispatch k (K.request s _ s.env.draws s.env.script h))

/-- The part of a step after the instruction keeps such a property. -/
theorem KeptByStep.endOfStep {P : State → Prop} (K : KeptByStep P) (x : Bool) (c : Nat) {s : State}
    (h : P s) : P (endOfStep x c s).2 := by
  have h1 : P (timerAdvance c s).takeExt := K.request _ _ _ _ (K.timer c s h)
  refine K.check c ?_
  cases x
  · exact h1
  · exact K.delay _ h1

/-- A property kept by everything a step does is kept by a step. -/
theorem KeptByStep.step {P : State → Prop} (K : KeptByStep P) {s t : State} (h : P s)
    (e : step s = .next t) : P t := by
  rcases step_cases e with ⟨_, rfl⟩ | ⟨_, _, rfl⟩ | ⟨_, _, _, op, rfl⟩ | ⟨_, _, hw, u, hu, rfl⟩
  · exact h
  · exact K.endOfStep _ _ h
  · exact K.fault s op h
  · obtain ⟨v, hv, hP⟩ := exec_keeps K.toKept h s.fetched hw
    obtain rfl : u = v := Host.Outcome.next.inj (hu.symm.trans hv)
    exact K.endOfStep _ _ hP

end Sys2Proof.Machine
end

