-- ==== Sys2Proof/Laws/Loop.lean ====
section
/-!
SUPPORT. Every step that completes costs at least one cycle, so that the cycle budget loop ends.
-/
namespace Sys2Proof.Machine

/-- Every opcode but the unused ones has a cost above 0. -/
theorem costOfBytes_pos (f : Flags) (op : Byte) (rest : List Byte)
    (h : illegalOpcodes.contains op = false) : 0 < costOfBytes f (op :: rest) := by
  have key : ∀ op : Byte, illegalOpcodes.contains op = false →
      (match primaryCost op with
        | .always n => decide (0 < n)
        | .branch a b => decide (0 < a) && decide (0 < b)
        | .noCost => false
        | .cbTable => true) = true := by decide
  have k := key op h
  simp only [costOfBytes]
  cases e : primaryCost op with
  | always n => simpa [e] using k
  | branch a b =>
    simp only [e, Bool.and_eq_true, decide_eq_true_eq] at k
    dsimp only; split <;> omega
  | noCost => simp [e] at k
  | cbTable => dsimp only [cbCost]; split_ifs <;> omega

/-- Every well-formed instruction costs at least one cycle. -/
theorem cycles_pos {i : Instr} (h : wellFormed i = true) (s : State) : 0 < cycles i s := by
  cases i <;> first | exact costOfBytes_pos _ _ _ rfl | exact absurd h (by decide)

/-- Every completed step costs at least one cycle. -/
theorem completed_pos {s t : State} {c : Nat}
    (h : stepInstruction s = .next (.completed c, t)) : 0 < c := by
  have key : ∀ x n u, 0 < n → (endOfStep x n u).1 = .completed c → 0 < c := by
    intro x n u hn e
    simp only [endOfStep, interruptCheck] at e
    split at e <;> cases e <;> omega
  simp only [stepInstruction] at h
  split at h
  · cases h
  · split at h
    · exact key _ haltedCycles _ (by decide) (congrArg Prod.fst (Host.Outcome.next.inj h))
    · obtain ⟨u, e⟩ := exec_answers s.fetched s
      rw [e] at h
      dsimp only at h
      split at h
      · rename_i hw
        exact key _ _ _ (cycles_pos hw s) (congrArg Prod.fst (Host.Outcome.next.inj h))
      · cases h

/-- As many steps as the budget has cycles are enough, and more change nothing. -/
theorem runBudget_fuel (f g : Nat) (b : Int) (s : State) (hf : b ≤ f) (hg : b ≤ g) :
    runBudget f b s = runBudget g b s := by
  induction f generalizing g b s with
  | zero =>
    cases g with
    | zero => rfl
    | succ g => rw [runBudget, runBudget, if_neg (by omega)]
  | succ f ih =>
    cases g with
    | zero => rw [runBudget, runBudget, if_neg (by omega)]
    | succ g =>
      simp only [runBudget]
      split
      · split
        · rename_i c t e
          have := completed_pos e
          exact ih g _ t (by omega) (by omega)
        all_goals rfl
      · rfl

end Sys2Proof.Machine
end

