-- ==== Sys2Proof/Tests/Slice0.lean ====
section
/-!
SUPPORT. The model's own tests. Expected values are those of spec/95_test_vectors.md (the vector is
named at each test) or are read off the maps of 30_encoding.md R99 and R100. Then, for each
obligation with hypotheses, a theorem `witness_…` that shows states and operands meeting them.
-/
namespace Sys2Proof.Tests

open Sys2Proof.Machine Sys2Proof.Spec

/-! Well-formedness: an unused slot is refused, an instruction is not (R101). -/

theorem test_unused_slot_is_ill_formed : wellFormed .illegal_d3 = false := by decide
theorem test_unused_slot_fd_is_ill_formed : wellFormed .illegal_fd = false := by decide
theorem test_nop_is_well_formed : wellFormed .nop = true := by decide

/-! The primary map R99, row by row, with operand bytes 0x12 0x34. -/

theorem test_primary_row_0 :
    (List.range 16).map (fun k => decodeBytes (BitVec.ofNat 8 (0x00 + k)) 0x12 0x34) =
      [.nop, (.ld_bc_n16 0x3412), .ld_mBC_a, .inc_bc, .inc_b, .dec_b, (.ld_b_n8 0x12), .rlca,
        (.ld_mN16_sp 0x3412), .add_hl_bc, .ld_a_mBC, .dec_bc, .inc_c, .dec_c, (.ld_c_n8 0x12), .rrca] := by
  rfl

theorem test_primary_row_1 :
    (List.range 16).map (fun k => decodeBytes (BitVec.ofNat 8 (0x10 + k)) 0x12 0x34) =
      [(.stop 0x12), (.ld_de_n16 0x3412), .ld_mDE_a, .inc_de, .inc_d, .dec_d, (.ld_d_n8 0x12),
        .rla, (.jr_e8 0x12), .add_hl_de, .ld_a_mDE, .dec_de, .inc_e, .dec_e, (.ld_e_n8 0x12), .rra] := by
  rfl

theorem test_primary_row_2 :
    (List.range 16).map (fun k => decodeBytes (BitVec.ofNat 8 (0x20 + k)) 0x12 0x34) =
      [(.jr_nz_e8 0x12), (.ld_hl_n16 0x3412), .ld_mHLi_a, .inc_hl, .inc_h, .dec_h, (.ld_h_n8 0x12),
        .daa, (.jr_z_e8 0x12), .add_hl_hl, .ld_a_mHLi, .dec_hl, .inc_l, .dec_l, (.ld_l_n8 0x12),
        .cpl] := by
  rfl

theorem test_primary_row_3 :
    (List.range 16).map (fun k => decodeBytes (BitVec.ofNat 8 (0x30 + k)) 0x12 0x34) =
      [(.jr_nc_e8 0x12), (.ld_sp_n16 0x3412), .ld_mHLd_a, .inc_sp, .inc_mHL, .dec_mHL, (.ld_mHL_n8
        0x12), .scf, (.jr_c_e8 0x12), .add_hl_sp, .ld_a_mHLd, .dec_sp, .inc_a, .dec_a, (.ld_a_n8
        0x12), .ccf] := by
  rfl

theorem test_primary_row_4 :
    (List.range 16).map (fun k => decodeBytes (BitVec.ofNat 8 (0x40 + k)) 0x12 0x34) =
      [.ld_b_b, .ld_b_c, .ld_b_d, .ld_b_e, .ld_b_h, .ld_b_l, .ld_b_mHL, .ld_b_a, .ld_c_b, .ld_c_c,
        .ld_c_d, .ld_c_e, .ld_c_h, .ld_c_l, .ld_c_mHL, .ld_c_a] := by
  rfl

theorem test_primary_row_5 :
    (List.range 16).map (fun k => decodeBytes (BitVec.ofNat 8 (0x50 + k)) 0x12 0x34) =
      [.ld_d_b, .ld_d_c, .ld_d_d, .ld_d_e, .ld_d_h, .ld_d_l, .ld_d_mHL, .ld_d_a, .ld_e_b, .ld_e_c,
        .ld_e_d, .ld_e_e, .ld_e_h, .ld_e_l, .ld_e_mHL, .ld_e_a] := by
  rfl

theorem test_primary_row_6 :
    (List.range 16).map (fun k => decodeBytes (BitVec.ofNat 8 (0x60 + k)) 0x12 0x34) =
      [.ld_h_b, .ld_h_c, .ld_h_d, .ld_h_e, .ld_h_h, .ld_h_l, .ld_h_mHL, .ld_h_a, .ld_l_b, .ld_l_c,
        .ld_l_d, .ld_l_e, .ld_l_h, .ld_l_l, .ld_l_mHL, .ld_l_a] := by
  rfl

theorem test_primary_row_7 :
    (List.range 16).map (fun k => decodeBytes (BitVec.ofNat 8 (0x70 + k)) 0x12 0x34) =
      [.ld_mHL_b, .ld_mHL_c, .ld_mHL_d, .ld_mHL_e, .ld_mHL_h, .ld_mHL_l, .halt, .ld_mHL_a, .ld_a_b,
        .ld_a_c, .ld_a_d, .ld_a_e, .ld_a_h, .ld_a_l, .ld_a_mHL, .ld_a_a] := by
  rfl

theorem test_primary_row_8 :
    (List.range 16).map (fun k => decodeBytes (BitVec.ofNat 8 (0x80 + k)) 0x12 0x34) =
      [.add_a_b, .add_a_c, .add_a_d, .add_a_e, .add_a_h, .add_a_l, .add_a_mHL, .add_a_a, .adc_a_b,
        .adc_a_c, .adc_a_d, .adc_a_e, .adc_a_h, .adc_a_l, .adc_a_mHL, .adc_a_a] := by
  rfl

theorem test_primary_row_9 :
    (List.range 16).map (fun k => decodeBytes (BitVec.ofNat 8 (0x90 + k)) 0x12 0x34) =
      [.sub_b, .sub_c, .sub_d, .sub_e, .sub_h, .sub_l, .sub_mHL, .sub_a, .sbc_a_b, .sbc_a_c,
        .sbc_a_d, .sbc_a_e, .sbc_a_h, .sbc_a_l, .sbc_a_mHL, .sbc_a_a] := by
  rfl

theorem test_primary_row_a :
    (List.range 16).map (fun k => decodeBytes (BitVec.ofNat 8 (0xA0 + k)) 0x12 0x34) =
      [.and_b, .and_c, .and_d, .and_e, .and_h, .and_l, .and_mHL, .and_a, .xor_b, .xor_c, .xor_d,
        .xor_e, .xor_h, .xor_l, .xor_mHL, .xor_a] := by
  rfl

theorem test_primary_row_b :
    (List.range 16).map (fun k => decodeBytes (BitVec.ofNat 8 (0xB0 + k)) 0x12 0x34) =
      [.or_b, .or_c, .or_d, .or_e, .or_h, .or_l, .or_mHL, .or_a, .cp_b, .cp_c, .cp_d, .cp_e, .cp_h,
        .cp_l, .cp_mHL, .cp_a] := by
  rfl

theorem test_primary_row_c :
    (List.range 16).map (fun k => decodeBytes (BitVec.ofNat 8 (0xC0 + k)) 0x12 0x34) =
      [.ret_nz, .pop_bc, (.jp_nz_n16 0x3412), (.jp_n16 0x3412), (.call_nz_n16 0x3412), .push_bc,
        (.add_a_n8 0x12), .rst_00, .ret_z, .ret, (.jp_z_n16 0x3412), .rl_d, (.call_z_n16 0x3412),
        (.call_n16 0x3412), (.adc_a_n8 0x12), .rst_08] := by
  rfl

theorem test_primary_row_d :
    (List.range 16).map (fun k => decodeBytes (BitVec.ofNat 8 (0xD0 + k)) 0x12 0x34) =
      [.ret_nc, .pop_de, (.jp_nc_n16 0x3412), .illegal_d3, (.call_nc_n16 0x3412), .push_de,
        (.sub_n8 0x12), .rst_10, .ret_c, .reti, (.jp_c_n16 0x3412), .illegal_db, (.call_c_n16
        0x3412), .illegal_dd, (.sbc_a_n8 0x12), .rst_18] := by
  rfl

theorem test_primary_row_e :
    (List.range 16).map (fun k => decodeBytes (BitVec.ofNat 8 (0xE0 + k)) 0x12 0x34) =
      [(.ldh_mN8_a 0x12), .pop_hl, .ld_mC_a, .illegal_e3, .illegal_e4, .push_hl, (.and_n8 0x12),
        .rst_20, (.add_sp_e8 0x12), .jp_hl, (.ld_mN16_a 0x3412), .illegal_eb, .illegal_ec,
        .illegal_ed, (.xor_n8 0x12), .rst_28] := by
  rfl

theorem test_primary_row_f :
    (List.range 16).map (fun k => decodeBytes (BitVec.ofNat 8 (0xF0 + k)) 0x12 0x34) =
      [(.ldh_a_mN8 0x12), .pop_af, .ld_a_mC, .di, .illegal_f4, .push_af, (.or_n8 0x12), .rst_30,
        (.ld_hl_sp_e8 0x12), .ld_sp_hl, (.ld_a_mN16 0x3412), .ei, .illegal_fc, .illegal_fd, (.cp_n8
        0x12), .rst_38] := by
  rfl

/-! The CB map R100, row by row. -/

theorem test_cb_row_0 :
    (List.range 16).map (fun k => decodeBytes 0xCB (BitVec.ofNat 8 (0x00 + k)) 0x34) =
      [.rlc_b, .rlc_c, .rlc_d, .rlc_e, .rlc_h, .rlc_l, .rlc_mHL, .rlc_a, .rrc_b, .rrc_c, .rrc_d,
        .rrc_e, .rrc_h, .rrc_l, .rrc_mHL, .rrc_a] := by
  rfl

theorem test_cb_row_1 :
    (List.range 16).map (fun k => decodeBytes 0xCB (BitVec.ofNat 8 (0x10 + k)) 0x34) =
      [.rl_b, .rl_c, .rl_d, .rl_e, .rl_h, .rl_l, .rl_mHL, .rl_a, .rr_b, .rr_c, .rr_d, .rr_e, .rr_h,
        .rr_l, .rr_mHL, .rr_a] := by
  rfl

theorem test_cb_row_2 :
    (List.range 16).map (fun k => decodeBytes 0xCB (BitVec.ofNat 8 (0x20 + k)) 0x34) =
      [.sla_b, .sla_c, .sla_d, .sla_e, .sla_h, .sla_l, .sla_mHL, .sla_a, .sra_b, .sra_c, .sra_d,
        .sra_e, .sra_h, .sra_l, .sra_mHL, .sra_a] := by
  rfl

theorem test_cb_row_3 :
    (List.range 16).map (fun k => decodeBytes 0xCB (BitVec.ofNat 8 (0x30 + k)) 0x34) =
      [.swap_b, .swap_c, .swap_d, .swap_e, .swap_h, .swap_l, .swap_mHL, .swap_a, .srl_b, .srl_c,
        .srl_d, .srl_e, .srl_h, .srl_l, .srl_mHL, .srl_a] := by
  rfl

theorem test_cb_row_4 :
    (List.range 16).map (fun k => decodeBytes 0xCB (BitVec.ofNat 8 (0x40 + k)) 0x34) =
      [.bit_0_b, .bit_0_c, .bit_0_d, .bit_0_e, .bit_0_h, .bit_0_l, .bit_0_mHL, .bit_0_a, .bit_1_b,
        .bit_1_c, .bit_1_d, .bit_1_e, .bit_1_h, .bit_1_l, .bit_1_mHL, .bit_1_a] := by
  rfl

theorem test_cb_row_5 :
    (List.range 16).map (fun k => decodeBytes 0xCB (BitVec.ofNat 8 (0x50 + k)) 0x34) =
      [.bit_2_b, .bit_2_c, .bit_2_d, .bit_2_e, .bit_2_h, .bit_2_l, .bit_2_mHL, .bit_2_a, .bit_3_b,
        .bit_3_c, .bit_3_d, .bit_3_e, .bit_3_h, .bit_3_l, .bit_3_mHL, .bit_3_a] := by
  rfl

theorem test_cb_row_6 :
    (List.range 16).map (fun k => decodeBytes 0xCB (BitVec.ofNat 8 (0x60 + k)) 0x34) =
      [.bit_4_b, .bit_4_c, .bit_4_d, .bit_4_e, .bit_4_h, .bit_4_l, .bit_4_mHL, .bit_4_a, .bit_5_b,
        .bit_5_c, .bit_5_d, .bit_5_e, .bit_5_h, .bit_5_l, .bit_5_mHL, .bit_5_a] := by
  rfl

theorem test_cb_row_7 :
    (List.range 16).map (fun k => decodeBytes 0xCB (BitVec.ofNat 8 (0x70 + k)) 0x34) =
      [.bit_6_b, .bit_6_c, .bit_6_d, .bit_6_e, .bit_6_h, .bit_6_l, .bit_6_mHL, .bit_6_a, .bit_7_b,
        .bit_7_c, .bit_7_d, .bit_7_e, .bit_7_h, .bit_7_l, .bit_7_mHL, .bit_7_a] := by
  rfl

theorem test_cb_row_8 :
    (List.range 16).map (fun k => decodeBytes 0xCB (BitVec.ofNat 8 (0x80 + k)) 0x34) =
      [.res_0_b, .res_0_c, .res_0_d, .res_0_e, .res_0_h, .res_0_l, .res_0_mHL, .res_0_a, .res_1_b,
        .res_1_c, .res_1_d, .res_1_e, .res_1_h, .res_1_l, .res_1_mHL, .res_1_a] := by
  rfl

theorem test_cb_row_9 :
    (List.range 16).map (fun k => decodeBytes 0xCB (BitVec.ofNat 8 (0x90 + k)) 0x34) =
      [.res_2_b, .res_2_c, .res_2_d, .res_2_e, .res_2_h, .res_2_l, .res_2_mHL, .res_2_a, .res_3_b,
        .res_3_c, .res_3_d, .res_3_e, .res_3_h, .res_3_l, .res_3_mHL, .res_3_a] := by
  rfl

theorem test_cb_row_a :
    (List.range 16).map (fun k => decodeBytes 0xCB (BitVec.ofNat 8 (0xA0 + k)) 0x34) =
      [.res_4_b, .res_4_c, .res_4_d, .res_4_e, .res_4_h, .res_4_l, .res_4_mHL, .res_4_a, .res_5_b,
        .res_5_c, .res_5_d, .res_5_e, .res_5_h, .res_5_l, .res_5_mHL, .res_5_a] := by
  rfl

theorem test_cb_row_b :
    (List.range 16).map (fun k => decodeBytes 0xCB (BitVec.ofNat 8 (0xB0 + k)) 0x34) =
      [.res_6_b, .res_6_c, .res_6_d, .res_6_e, .res_6_h, .res_6_l, .res_6_mHL, .res_6_a, .res_7_b,
        .res_7_c, .res_7_d, .res_7_e, .res_7_h, .res_7_l, .res_7_mHL, .res_7_a] := by
  rfl

theorem test_cb_row_c :
    (List.range 16).map (fun k => decodeBytes 0xCB (BitVec.ofNat 8 (0xC0 + k)) 0x34) =
      [.set_0_b, .set_0_c, .set_0_d, .set_0_e, .set_0_h, .set_0_l, .set_0_mHL, .set_0_a, .set_1_b,
        .set_1_c, .set_1_d, .set_1_e, .set_1_h, .set_1_l, .set_1_mHL, .set_1_a] := by
  rfl

theorem test_cb_row_d :
    (List.range 16).map (fun k => decodeBytes 0xCB (BitVec.ofNat 8 (0xD0 + k)) 0x34) =
      [.set_2_b, .set_2_c, .set_2_d, .set_2_e, .set_2_h, .set_2_l, .set_2_mHL, .set_2_a, .set_3_b,
        .set_3_c, .set_3_d, .set_3_e, .set_3_h, .set_3_l, .set_3_mHL, .set_3_a] := by
  rfl

theorem test_cb_row_e :
    (List.range 16).map (fun k => decodeBytes 0xCB (BitVec.ofNat 8 (0xE0 + k)) 0x34) =
      [.set_4_b, .set_4_c, .set_4_d, .set_4_e, .set_4_h, .set_4_l, .set_4_mHL, .set_4_a, .set_5_b,
        .set_5_c, .set_5_d, .set_5_e, .set_5_h, .set_5_l, .set_5_mHL, .set_5_a] := by
  rfl

theorem test_cb_row_f :
    (List.range 16).map (fun k => decodeBytes 0xCB (BitVec.ofNat 8 (0xF0 + k)) 0x34) =
      [.set_6_b, .set_6_c, .set_6_d, .set_6_e, .set_6_h, .set_6_l, .set_6_mHL, .set_6_a, .set_7_b,
        .set_7_c, .set_7_d, .set_7_e, .set_7_h, .set_7_l, .set_7_mHL, .set_7_a] := by
  rfl

/-! Rejected by name: a byte list that ends too soon. -/

theorem test_decode_empty : decode [] = .error .noByte := by rfl
theorem test_decode_truncated : decode [0xC3, 0x00] = .error (.truncated 0xC3) := by rfl
theorem test_table_word_primary : decodeTableWord 24 0x3412CD = some (.call_n16 0x3412) := by rfl
theorem test_table_word_cb : decodeTableWord 16 0xCB7C = some .bit_7_h := by rfl

/-! One instruction, executed (95_test_vectors.md part 2). -/

/-- The start of the single-instruction vectors: the instruction at 0xC000. -/
def start : State := { State.reset with pc := 0xC000 }

/-- The start with flag byte `f`. -/
def startF (f : Byte) : State := { start with flags := Flags.ofByte f }

/-- The state after the instruction with these bytes. -/
def after (b0 b1 b2 : Byte) (s : State) : State :=
  match exec (decodeBytes b0 b1 b2) s with
  | .next t => t
  | .fault _ => State.reset
  | .refused _ => State.reset

/-- A and the flag byte after it. -/
def aF (b0 b1 : Byte) (s : State) : Byte × Byte :=
  ((after b0 b1 0 s).regs.a, (after b0 b1 0 s).f)

theorem test_add_zero_carry_half :  -- A1
    aF 0x80 0 { startF 0x00 with regs.a := 0x3A, regs.b := 0xC6 } = (0x00, 0xB0) := by decide
theorem test_adc_carry_makes_zero :  -- A5
    aF 0xCE 0x1E { startF 0x10 with regs.a := 0xE1 } = (0x00, 0xB0) := by decide
theorem test_sub_borrow :  -- A8
    aF 0xD6 0x40 { startF 0x00 with regs.a := 0x3E } = (0xFE, 0x50) := by decide
theorem test_sbc_both_borrows :  -- A11
    aF 0xDE 0x4F { startF 0x10 with regs.a := 0x3B } = (0xEB, 0x70) := by decide
theorem test_and_forces_half :  -- A12
    aF 0xA5 0 { startF 0x00 with regs.a := 0x5A, regs.l := 0x3F } = (0x1A, 0x20) := by decide
theorem test_xor_same_register :  -- A13
    aF 0xAF 0 { startF 0x00 with regs.a := 0xFF } = (0x00, 0x80) := by decide
theorem test_or_clears_flags :  -- A14
    aF 0xF6 0x03 { startF 0xF0 with regs.a := 0x5A } = (0x5B, 0x00) := by decide
theorem test_cp_keeps_a :  -- A15
    aF 0xB8 0 { startF 0x00 with regs.a := 0x3C, regs.b := 0x2F } = (0x3C, 0x60) := by decide
theorem test_inc_wraps_keeps_carry :  -- A18
    aF 0x3C 0 { startF 0x10 with regs.a := 0xFF } = (0x00, 0xB0) := by decide
theorem test_dec_mem_wraps :  -- A20
    (after 0x35 0 0
        { startF 0x00 with regs.h := 0xC1, regs.l := 0x00, mem := [(0xC100, 0x00)] }).mem =
      [(0xC100, 0xFF)] := by decide
theorem test_daa_after_add : aF 0x27 0 { startF 0x00 with regs.a := 0x9A } = (0x00, 0x90) := by
  decide  -- A24
theorem test_daa_after_sub : aF 0x27 0 { startF 0x60 with regs.a := 0x0C } = (0x06, 0x40) := by
  decide  -- A23
theorem test_cpl : aF 0x2F 0 { startF 0x00 with regs.a := 0x35 } = (0xCA, 0x60) := by decide  -- A25
theorem test_scf : (after 0x37 0 0 (startF 0x80)).f = 0x90 := by decide  -- A26
theorem test_ccf : (after 0x3F 0 0 (startF 0x60)).f = 0x10 := by decide  -- A28
theorem test_add_hl_same_pair :  -- W2
    (after 0x29 0 0 { startF 0x80 with regs.h := 0x8A, regs.l := 0x23 }).hl = 0x1446 ∧
      (after 0x29 0 0 { startF 0x80 with regs.h := 0x8A, regs.l := 0x23 }).f = 0xB0 := by decide
theorem test_dec_pair_wraps :  -- W4
    (after 0x1B 0 0 { startF 0xF0 with regs.d := 0, regs.e := 0 }).de = 0xFFFF := by decide
theorem test_inc_sp_wraps : (after 0x33 0 0 { start with sp := 0xFFFF }).sp = 0x0000 := by
  decide  -- W10
theorem test_add_sp_negative :  -- W6
    (after 0xE8 0xFF 0 { startF 0x80 with sp := 0x0001 }).sp = 0x0000 ∧
      (after 0xE8 0xFF 0 { startF 0x80 with sp := 0x0001 }).f = 0x30 := by decide
theorem test_ld_hl_sp_no_low_carry :  -- W8
    (after 0xF8 0xFF 0 { startF 0x00 with sp := 0x0000 }).hl = 0xFFFF ∧
      (after 0xF8 0xFF 0 { startF 0x00 with sp := 0x0000 }).f = 0x00 := by decide
theorem test_rlca_clears_zero : aF 0x07 0 { startF 0x80 with regs.a := 0x00 } = (0x00, 0x00) := by
  decide  -- S2
theorem test_rra_zero_result : aF 0x1F 0 { startF 0x00 with regs.a := 0x01 } = (0x00, 0x10) := by
  decide  -- S6
theorem test_rl_carry_in_and_out :
    aF 0xCB 0x17 { startF 0x10 with regs.a := 0x80 } = (0x01, 0x10) := by decide  -- S21
theorem test_rr_register :
    aF 0xCB 0x1F { startF 0x00 with regs.a := 0x01 } = (0x00, 0x90) := by decide  -- S11
theorem test_sra_keeps_sign :
    aF 0xCB 0x2F { startF 0x00 with regs.a := 0x8A } = (0xC5, 0x00) := by decide  -- S15
theorem test_swap_clears_carry :
    aF 0xCB 0x37 { startF 0x10 with regs.a := 0x00 } = (0x00, 0x80) := by decide  -- S17
theorem test_bit_keeps_carry :  -- B1
    (after 0xCB 0x7C 0 { startF 0x10 with regs.h := 0x80 }).f = 0x30 := by decide
theorem test_bit_clear_sets_zero :  -- B2
    (after 0xCB 0x65 0 { startF 0x00 with regs.l := 0xEF }).f = 0xA0 := by decide
theorem test_res_keeps_flags :
    aF 0xCB 0xBF { startF 0xF0 with regs.a := 0x80 } = (0x00, 0xF0) := by decide  -- B4
theorem test_set_mem :  -- B7
    (after 0xCB 0xFE 0
        { start with regs.h := 0xC1, regs.l := 0x00, mem := [(0xC100, 0x00)] }).mem =
      [(0xC100, 0x80)] := by decide
theorem test_push_high_byte_higher :  -- LS1
    (after 0xC5 0 0 { start with regs.b := 0x12, regs.c := 0x34 }).mem =
      [(0xFFFC, 0x34), (0xFFFD, 0x12)] := by decide
theorem test_pop_af_drops_low_nibble :  -- LS2
    aF 0xF1 0 { start with sp := 0xFFFC, mem := [(0xFFFC, 0xFF), (0xFFFD, 0x12)] } =
      (0x12, 0xF0) := by decide
theorem test_ld_n16_sp_low_byte_first :  -- LS4
    (after 0x08 0x00 0xC2 { start with sp := 0xFFF8 }).mem = [(0xC200, 0xF8), (0xC201, 0xFF)] := by
  decide
theorem test_ld_a_hli_wraps :  -- LS5
    (after 0x2A 0 0 { start with regs.h := 0xFF, regs.l := 0xFF, irq.ie := 0x5A }).regs.a = 0x5A ∧
      (after 0x2A 0 0 { start with regs.h := 0xFF, regs.l := 0xFF }).hl = 0x0000 := by decide
theorem test_ld_mC_a_writes_tac :  -- LS7
    (after 0xE2 0 0 { start with regs.c := 0x07, regs.a := 0x05 }).timer.timaCounter = 16 := by
  decide
theorem test_ld_mN16_a_resets_div :  -- LS8
    (after 0xEA 0x04 0xFF { start with regs.a := 0x99, timer.div := 0x37 }).timer.div = 0 := by
  decide
theorem test_ld_a_mDE_open_bus :  -- LS9
    (after 0x1A 0 0 { start with regs.d := 0xA0, regs.e := 0x00 }).regs.a = 0xFF := by decide
theorem test_ld_mDE_a_echo :  -- LS10
    (after 0x12 0 0 { start with regs.d := 0xE1, regs.e := 0x23, regs.a := 0x42 }).mem =
      [(0xC123, 0x42)] := by decide
theorem test_ld_h_mHL_uses_old_hl :  -- LS19
    (after 0x66 0 0
        { start with regs.h := 0xC1, regs.l := 0x00, mem := [(0xC100, 0x55)] }).hl = 0x5500 := by
  decide
theorem test_jp_z_not_taken : (after 0xCA 0x34 0x12 (startF 0x00)).pc = 0xC003 := by decide  -- J2
theorem test_jp_z_taken : (after 0xCA 0x34 0x12 (startF 0x80)).pc = 0x1234 := by decide  -- J3
theorem test_jr_most_negative : (after 0x30 0x80 0 (startF 0x00)).pc = 0xBF82 := by decide  -- J7
theorem test_jr_wraps : (after 0x18 0x01 0 { start with pc := 0xFFFE }).pc = 0x0001 := by
  decide  -- J17
theorem test_call_pushes_next :  -- J9
    (after 0xCD 0x34 0x12 start).mem = [(0xFFFC, 0x03), (0xFFFD, 0xC0)] ∧
      (after 0xCD 0x34 0x12 start).pc = 0x1234 := by decide
theorem test_ret_cc_taken :  -- J13
    (after 0xD0 0 0
        { startF 0x00 with sp := 0xFFFC, mem := [(0xFFFC, 0x50), (0xFFFD, 0x01)] }).pc = 0x0150 := by
  decide
theorem test_reti_sets_ime :  -- J14
    (after 0xD9 0 0 { start with sp := 0xFFFC, mem := [(0xFFFC, 3), (0xFFFD, 0xC0)] }).irq.ime =
      true := by decide
theorem test_rst_38 : (after 0xFF 0 0 start).pc = 0x0038 := by decide  -- J15
theorem test_di_cancels_ei :  -- Y3
    (after 0xF3 0 0 { start with irq.ime := true, irq.eiDelay := 1 }).irq.eiDelay = 0 := by decide
theorem test_stop_two_bytes : (after 0x10 0 0 start).pc = 0xC002 := by decide  -- Y5
theorem test_illegal_stops :  -- Y6
    (after 0xD3 0 0 start).running = false ∧
      (after 0xD3 0 0 start).fault =
        some { reason := .illegalOpcode, pc := 0xC000, op := 0xD3 } := by decide

/-! Cycles (70_reset_and_hazards.md R285). -/

theorem test_cycles_add_imm : cycles (.add_a_n8 0xFF) start = 8 := by decide  -- A2
theorem test_cycles_call_not_taken : cycles (.call_c_n16 0x1234) (startF 0x00) = 12 := by
  decide  -- J10
theorem test_cycles_bit_mem : cycles .bit_0_mHL start = 12 := by decide  -- B3
theorem test_cycles_sla_mem : cycles .sla_mHL start = 16 := by decide  -- S14

/-! Whole steps (parts 1 and 2.8), the external request being 0. -/

/-- The step's result and state. -/
def stepped (s : State) : StepResult × State :=
  match stepInstruction { s with env.script := [0] } with
  | .next r => r
  | .fault _ => (.stopped, s)
  | .refused _ => (.stopped, s)

/-- A step that ends in a dispatch: NOP with V-Blank and LCD requested (L1-6). -/
def dispatching : State :=
  { start with
    sp := 0xD000, irq.ime := true, irq.ifr := 0x03, irq.ie := 0x03, mem := [(0xC000, 0x00),
      (0xC001, 0x00), (0xC002, 0x00)] }

/-- The pushes over IF, by R249's pseudocode: the first byte with SP = 0xFF10, the second with
SP = 0xFF11 (log entry 22). -/
theorem test_dispatch_over_if :
    (State.dispatch { start with sp := 0xFF10, pc := 0xC123, irq.ifr := 0x01 } 0).irq.ifr = 0xC1 ∧
      (State.dispatch { start with sp := 0xFF11, pc := 0xC123, irq.ifr := 0x01 } 0).irq.ifr =
        0x23 := by decide

theorem test_dispatch_cycles : (stepped dispatching).1 = .completed 24 := by decide
theorem test_dispatch_state :
    (stepped dispatching).2.pc = 0x0040 ∧ (stepped dispatching).2.irq.ifr = 0x02 ∧
      (stepped dispatching).2.irq.ime = false ∧
      (stepped dispatching).2.busRead 0xCFFE = 0x01 ∧
      (stepped dispatching).2.busRead 0xCFFF = 0xC0 := by decide
theorem test_pending_needs_enable :  -- T6
    { start with irq.ifr := 0x18, irq.ie := 0x10 }.pending = some 4 := by decide
theorem test_timer_two_expiries :  -- T7
    (timerAdvance 24
        { start with
          timer.tac := 0x05, timer.scaler := .by16, timer.timaCounter := 1,
          timer.tima := 0x10 }).timer.tima = 0x12 ∧
      (timerAdvance 24
        { start with
          timer.tac := 0x05, timer.scaler := .by16, timer.timaCounter := 1,
          timer.tima := 0x10 }).timer.timaCounter = 9 := by decide
theorem test_timer_overflow :  -- L1-5, 16 x 256 cycles
    (timerAdvance 16
        { start with
          timer.tac := 0x05, timer.scaler := .by16, timer.timaCounter := 16,
          timer.tima := 0xFF, timer.tma := 0xAB }).timer.tima = 0xAB ∧
      (timerAdvance 16
        { start with
          timer.tac := 0x05, timer.scaler := .by16, timer.timaCounter := 16,
          timer.tima := 0xFF }).irq.ifr = 0x04 := by decide
theorem test_divider :  -- T8
    (timerAdvance 16 { start with timer.divCounter := 250, timer.div := 0x07 }).timer.div = 0x08 ∧
      (timerAdvance 16 { start with timer.divCounter := 250 }).timer.divCounter = 10 := by decide
theorem test_halted_wakes_without_ime :  -- T4, R232
    (stepped { start with halted := true, irq.ifr := 0x04, irq.ie := 0x04 }).2.halted = false := by
  decide
theorem test_halted_stuck :  -- T5
    (stepped { start with halted := true, irq.ifr := 0x1F, irq.ie := 0x00 }).2.halted = true := by
  decide

/-! The bank controller (part 2.9). -/

/-- The bank registers after a write below 0x8000. -/
def bankAfter (fam : Family) (b : Bank) (addr : Word) (v : Byte) : Bank := mbcWrite fam b addr v

/-- The bank registers at reset. -/
def bank0 : Bank := State.reset.bank

theorem test_mbc1_upper_bits :  -- M4
    (bankAfter .mbc1 bank0 0x4000 0x03).romBank = 0x61 ∧
      (bankAfter .mbc1 { bank0 with romBank := 0x61 } 0x2000 0x00).romBank = 0x61 := by decide
theorem test_mbc1_ram_bank_mode1 :  -- M5
    { State.reset with
      cart.family := .mbc1, bank.mbcMode := true, bank.ramBank := 2,
      bank.ramEnabled := true }.cellAt 0xA000 = .ram 0x4000 := by decide
theorem test_mbc2_address_bit :  -- M6
    (bankAfter .mbc2 bank0 0x2100 0x05).romBank = 5 ∧
      bankAfter .mbc2 bank0 0x2000 0x05 = bank0 := by decide
/-- R68's own sentence; vector M6 says otherwise of this write (log entry 20). -/
theorem test_mbc2_low_bank_select :
    (bankAfter .mbc2 bank0 0x0100 0x0A).romBank = 0x0A ∧
      (bankAfter .mbc2 bank0 0x0100 0x0A).ramEnabled = false := by decide
theorem test_mbc3_bank_zero :  -- M7
    (bankAfter .mbc3 bank0 0x2000 0x00).romBank = 1 ∧
      (bankAfter .mbc3 bank0 0x2000 0x85).romBank = 5 := by decide
theorem test_mbc3_clock_ignored :  -- M8
    bankAfter .mbc3 { bank0 with ramBank := 2 } 0x4000 0x08 = { bank0 with ramBank := 2 } := by
  decide
theorem test_mbc5_nine_bits :  -- M9
    (bankAfter .mbc5 bank0 0x3000 0x01).romBank = 0x101 ∧
      (bankAfter .mbc5 { bank0 with romBank := 0x101 } 0x2000 0x00).romBank = 0x100 ∧
      (bankAfter .mbc5 { bank0 with romBank := 0x100 } 0x3000 0x00).romBank = 1 := by decide
theorem test_rom_index_reduced :  -- M11
    { State.reset with cart.romLen := 0x10000, bank.romBank := 0x21 }.cellAt 0x4000 =
      .rom 0x4000 := by decide
theorem test_unsupported_family : familyOf 0x0B = .unsupported := by decide  -- M10

/-! Witnesses. -/

/-- Running, not halted, the bytes at PC decoding to NOP, and its execution. -/
theorem witness_StepRunsDecodedInstruction :
    State.reset.running = true ∧ State.reset.halted = false ∧
      decode [State.reset.busRead State.reset.pc, State.reset.busRead (State.reset.pc + 1),
        State.reset.busRead (State.reset.pc + 2)] = .ok (.nop, [0, 0]) ∧
      wellFormed .nop = true ∧
      exec .nop State.reset = .next { State.reset with pc := 0x0101 } :=
  ⟨rfl, rfl, rfl, rfl, rfl⟩

/-- An empty script, and one with a request for bit 7 and bit 0 in it. -/
theorem witness_StepRunsDecodedInstruction_draws :
    State.reset.env.script = [] ∧ { start with env.script := [0x81] }.env.script = 0x81 :: [] :=
  ⟨rfl, rfl⟩

/-- A stopped core; a running one whose step completes at 4 cycles, one that faults, with the least
budget. -/
theorem witness_StoppedCoreStays :
    (hostStop State.reset).running = false ∧ 0 < 1 ∧ State.reset.running = true ∧
      { start with mem := [(0xC000, 0xD3)] }.running = true ∧
      (∃ t, stepInstruction { start with mem := [(0xC000, 0x00)], env.script := [0] } =
        .next (.completed 4, t)) ∧
      ∃ r t, stepInstruction { start with mem := [(0xC000, 0xD3)] } = .next (.faulted r, t) :=
  ⟨rfl, by decide, rfl, rfl, ⟨_, rfl⟩, ⟨_, _, rfl⟩⟩

/-- Flat addresses beside the core registers. -/
theorem witness_BusReadDecodes :
    ∀ i ∈ ([0xFF03, 0xFF08, 0xFF0E, 0xFF10, 0xFFFE, 0xC000] : List Nat), i ∉ coreRegisters := by
  decide

/-- A halted core with nothing pending at the check. -/
theorem witness_HaltedTickOnlyTicks :
    { start with halted := true, env.script := [0] }.running = true ∧
      { start with halted := true, env.script := [0] }.halted = true ∧
      (beforeCheck false 4 { start with halted := true, env.script := [0] }).pending = none := by
  decide

/-- An unused opcode at PC: the first and the last of the eleven. -/
theorem witness_IllegalOpcodeFaults :
    (∀ v ∈ ([0xD3, 0xFD] : List Byte),
      { start with mem := [(0xC000, v)] }.running = true ∧
        { start with mem := [(0xC000, v)] }.halted = false ∧
        { start with mem := [(0xC000, v)] }.busRead 0xC000 = v) := by decide

/-- The lowest and the highest address of the clause on initial contents. -/
theorem witness_ResetState :
    (0xC000 ≤ 0xC000 ∧ 0xC000 < 0xE000) ∧ 0xC000 ≤ 0xDFFF ∧ 0xDFFF < 0xE000 := by decide

/-- A running core; a stopped one with the longest image refused and the shortest loaded. -/
theorem witness_LoadRomReplacesImage :
    State.reset.running = true ∧ (hostStop State.reset).running = false ∧
      (List.replicate 0x3FFF (0 : Byte)).length < 0x4000 ∧
      0x4000 ≤ (List.replicate 0x4000 (0 : Byte)).length := by
  refine ⟨rfl, rfl, ?_, ?_⟩ <;> simp only [List.length_replicate] <;> decide

/-- The two ends of the bank-control range. -/
theorem witness_LowWritesAreBankCommands :
    (0x0000 : Word).toNat < 0x8000 ∧ (0x7FFF : Word).toNat < 0x8000 := by decide

theorem witness_StepKeepsCartridge : ∃ t, step State.reset = .next t := ⟨_, rfl⟩

/-- Video RAM from its first byte; the last byte of enabled cartridge RAM; work RAM through echo. -/
theorem witness_StoreThenLoadReturnsValue :
    (0x8000 ≤ (0x8000 : Word).toNat ∧ (0x8000 : Word) ≠ 0xFF04) ∧
      (0xA000 ≤ (0xBFFF : Word).toNat ∧ (0xBFFF : Word).toNat < 0xC000 ∧
        { start with bank.ramEnabled := true }.bank.ramEnabled = true) ∧
      (0x8000 ≤ (0xE000 : Word).toNat ∧ start.cellAt 0xC000 = start.cellAt 0xE000) := by decide

/-- Another cell; an address above 0x8000; addresses that are not DIV, not TAC. -/
theorem witness_BusWriteFrame :
    Cell.flat 0xC001 ≠ start.cellAt 0xC000 ∧ start.cellAt 0xC001 ≠ start.cellAt 0xC000 ∧
      0x8000 ≤ (0x8000 : Word).toNat ∧
      (0xFF05 : Word) ≠ 0xFF04 ∧ (0xFF06 : Word) ≠ 0xFF07 := by decide

/-- The first and the last echo address. -/
theorem witness_EchoAliasesWorkRam :
    (0xE000 ≤ (0xE000 : Word).toNat ∧ (0xE000 : Word).toNat < 0xFE00) ∧
      0xE000 ≤ (0xFDFF : Word).toNat ∧ (0xFDFF : Word).toNat < 0xFE00 := by decide

/-- Cartridge RAM is disabled at reset; the first and the last of its addresses. -/
theorem witness_DisabledRamReadsOpenBus :
    start.bank.ramEnabled = false ∧
      (0xA000 ≤ (0xA000 : Word).toNat ∧ (0xA000 : Word).toNat < 0xC000) ∧
      0xA000 ≤ (0xBFFF : Word).toNat ∧ (0xBFFF : Word).toNat < 0xC000 := by decide

/-- A cartridge of a family. -/
def withFamily (fam : Family) : State := { start with cart.family := fam }

/-- Both ends of each MBC1 window, the third in both modes. -/
theorem witness_Mbc1Commands :
    (withFamily .mbc1).cart.family = .mbc1 ∧
      (0x1FFF : Word).toNat ≤ 0x1FFF ∧
      (0x2000 ≤ (0x2000 : Word).toNat ∧ (0x3FFF : Word).toNat ≤ 0x3FFF) ∧
      (0x4000 ≤ (0x4000 : Word).toNat ∧ (0x5FFF : Word).toNat ≤ 0x5FFF) ∧
      (withFamily .mbc1).bank.mbcMode = false ∧
      { withFamily .mbc1 with bank.mbcMode := true }.bank.mbcMode = true ∧
      (0x6000 ≤ (0x6000 : Word).toNat ∧ (0x7FFF : Word).toNat < 0x8000) := by decide

/-- Each family, and an address of each branch at the edge of its window. -/
theorem witness_OtherBankCommands :
    ((withFamily .mbc2).cart.family = .mbc2 ∧ (withFamily .mbc3).cart.family = .mbc3 ∧
      (withFamily .mbc5).cart.family = .mbc5) ∧
      ((0x1EFF : Word).toNat ≤ 0x1FFF ∧ (0x1EFF : Word).toNat / 256 % 2 = 0) ∧
      ((0x3FFF : Word).toNat ≤ 0x3FFF ∧ (0x3FFF : Word).toNat / 256 % 2 = 1) ∧
      (¬(0x2000 : Word).toNat ≤ 0x1FFF ∧ (0x2FFF : Word).toNat ≤ 0x2FFF) ∧
      (¬(0x3000 : Word).toNat ≤ 0x2FFF ∧ (0x5FFF : Word).toNat ≤ 0x5FFF) ∧
      (0x7FFF : Word).toNat < 0x8000 ∧ (0x07 : Byte).toNat < 8 := by decide

theorem witness_RamBankInEffect :
    (withFamily .romOnly).cart.family = .romOnly ∧
      (withFamily .unsupported).cart.family = .unsupported ∧
      (withFamily .mbc1).cart.family = .mbc1 ∧ (withFamily .mbc2).cart.family = .mbc2 ∧
      (withFamily .mbc3).cart.family = .mbc3 ∧ (withFamily .mbc5).cart.family = .mbc5 ∧
      (0x7FFF : Word).toNat < 0x8000 := by decide

/-- Decimal operands: 45 and 38, and the largest, 99 (L1-3). -/
theorem witness_DaaClosesDecimalArithmetic :
    isDecimal { start with regs.a := 0x45, regs.b := 0x38 }.regs.a ∧
      isDecimal ({ start with regs.a := 0x45, regs.b := 0x38 }.srcValue (.op (.reg .b))) ∧
      isDecimal (start.srcValue (.imm 0x99)) := by
  unfold isDecimal
  decide

/-- A stack whose lower byte is TAC (R60, R38; log entry 21). -/
theorem witness_PushThenPopRestores_tac :
    (0x8000 ≤ (0xFF08 : Word).toNat ∧ (0xFF08 : Word) ≠ 0xFF04 ∧
        start.cellAt 0xFF08 = .flat 0xFF08) ∧
      0x8000 ≤ (0xFF07 : Word).toNat ∧ (0xFF07 : Word) ≠ 0xFF04 ∧
        start.cellAt 0xFF07 = .flat 0xFF07 := by decide

/-- A stack in work RAM; and one whose two bytes lie on both sides of the cartridge RAM window's
lower end. -/
theorem witness_PushThenPopRestores :
    ((0x8000 ≤ (0xCFFF : Word).toNat ∧ (0xCFFF : Word) ≠ 0xFF04 ∧
        start.cellAt 0xCFFF = .flat 0xCFFF) ∧
      0x8000 ≤ (0xCFFE : Word).toNat ∧ (0xCFFE : Word) ≠ 0xFF04 ∧
        start.cellAt 0xCFFE = .flat 0xCFFE) ∧
    (0x8000 ≤ (0xA000 : Word).toNat ∧ (0xA000 : Word) ≠ 0xFF04 ∧
        ({ start with bank.ramEnabled := true } : State).cellAt 0xA000 = .ram 0) ∧
      0x8000 ≤ (0x9FFF : Word).toNat ∧ (0x9FFF : Word) ≠ 0xFF04 ∧
        ({ start with bank.ramEnabled := true } : State).cellAt 0x9FFF = .flat 0x9FFF := by decide

/-- Each condition holds in some state and fails in another. -/
theorem witness_CallsPushReturnAddress :
    ∀ cc ∈ ([.nz, .z, .nc, .c] : List Cond),
      (taken (startF 0x00).flags cc = true ∧ taken (startF 0x90).flags cc = false) ∨
        (taken (startF 0x90).flags cc = true ∧ taken (startF 0x00).flags cc = false) := by decide

/-- The same for the returns. -/
theorem witness_ReturnsPopAddress :
    ∀ cc ∈ ([.nz, .z, .nc, .c] : List Cond),
      (taken (startF 0x00).flags cc = true ∧ taken (startF 0x90).flags cc = false) ∨
        (taken (startF 0x90).flags cc = true ∧ taken (startF 0x00).flags cc = false) := by decide

/-- EI at PC with IME 0. -/
theorem witness_EiTakesEffectAfterNext_ei :
    { start with mem := [(0xC000, 0xFB)] }.running = true ∧
      { start with mem := [(0xC000, 0xFB)] }.halted = false ∧
      { start with mem := [(0xC000, 0xFB)] }.fetched = .ei ∧
      { start with mem := [(0xC000, 0xFB)] }.irq.ime = false ∧
      ∃ t, step { start with mem := [(0xC000, 0xFB)] } = .next t :=
  ⟨rfl, rfl, rfl, rfl, step_answers _⟩

/-- NOP at PC with the delay at 1. -/
theorem witness_EiTakesEffectAfterNext_next :
    { start with mem := [(0xC000, 0x00)], irq.eiDelay := 1 }.running = true ∧
      { start with mem := [(0xC000, 0x00)], irq.eiDelay := 1 }.halted = false ∧
      { start with mem := [(0xC000, 0x00)], irq.eiDelay := 1 }.irq.eiDelay = 1 ∧
      { start with mem := [(0xC000, 0x00)], irq.eiDelay := 1 }.fetched = .nop ∧
      Instr.nop ≠ .di ∧ Instr.nop ≠ .ei ∧ wellFormed .nop = true ∧
      ∃ t, step { start with mem := [(0xC000, 0x00)], irq.eiDelay := 1 } = .next t :=
  ⟨rfl, rfl, rfl, rfl, nofun, nofun, rfl, step_answers _⟩

/-- NOP, EI and HALT, one for each exception of the statement's clauses. -/
theorem witness_OnlyNamedInstructionsWriteIme :
    ∀ i ∈ ([.nop, .ei, .halt] : List Instr), i ≠ .di ∧ i ≠ .reti ∧ wellFormed i = true := by
  intro i hi
  simp only [List.mem_cons, List.not_mem_nil, or_false] at hi
  rcases hi with rfl | rfl | rfl <;> exact ⟨nofun, nofun, rfl⟩

/-- Nothing pending; the lowest and the highest source pending, with IME 0 and 1. -/
theorem witness_CheckWakesAndDispatches :
    start.pending = none ∧
      ({ start with irq.ifr := 0x1F, irq.ie := 0x1F }.pending = some 0 ∧
        { start with irq.ifr := 0x1F, irq.ie := 0x1F }.irq.ime = false) ∧
      { start with irq.ifr := 0x10, irq.ie := 0x1F, irq.ime := true }.pending = some 4 ∧
      { start with irq.ifr := 0x10, irq.ie := 0x1F, irq.ime := true }.irq.ime = true := by decide

/-- A running core whose step leaves IME set, and one whose step leaves it halted. -/
theorem witness_CompletedStepLeavesNothingPending :
    (∃ t, step { start with irq.ime := true, halted := true, env.script := [0] } = .next t ∧
      t.irq.ime = true ∧ t.halted = true) ∧ start.running = true :=
  ⟨⟨_, rfl, rfl, rfl⟩, rfl⟩

/-- The two ends of divCounter's range. -/
theorem witness_DividerCountsCycles :
    start.timer.divCounter < 256 ∧
      { start with timer.divCounter := 255 }.timer.divCounter < 256 := by decide

/-- The countdown frozen; running and above 0, at 0, just above one period below, one period below,
just above two periods below, after the cycles are taken. -/
theorem witness_CountdownExpiresAtZero :
    start.timer.tac.getLsbD 2 = false ∧
      { start with timer.tac := 0x05 }.timer.tac.getLsbD 2 = true ∧
      (0 < (16 : Int) - 15) ∧ ((16 : Int) - 16 ≤ 0 ∧ -16 < (16 : Int) - 16) ∧
      ((1 : Int) - 16 ≤ 0 ∧ -16 < (1 : Int) - 16) ∧
      ((1 : Int) - 17 ≤ -16 ∧ -(2 * 16) < (1 : Int) - 17) ∧
      (1 : Int) - 32 ≤ -16 ∧ -(2 * 16) < (1 : Int) - 32 := by decide

/-- A state that meets the invariant and whose step answers a state. -/
theorem witness_StepKeepsInvariant :
    { State.reset with pc := 0x0150 }.Inv ∧
      ∃ t, step { State.reset with pc := 0x0150 } = .next t := by
  refine ⟨?_, _, rfl⟩
  constructor <;> first | decide | rfl

end Sys2Proof.Tests
end

section
/-!
SUPPORT. The bank registers stay in their family's ranges under every bank command (20_memory.md
R66-R73).
-/
namespace Sys2Proof.Machine

/-- Remapping bank 0 to 1 leaves a bank number from 1 up to any bound it met (R73). -/
theorem clampBank_range {b : BitVec 9} {n : Nat} (hn : 1 ≤ n) (h : b.toNat ≤ n) :
    1 ≤ (clampBank b).toNat ∧ (clampBank b).toNat ≤ n := by
  unfold clampBank
  split
  · exact ⟨Nat.le_refl 1, hn⟩
  · rename_i hb
    have : b.toNat ≠ 0 := fun h0 => hb (BitVec.eq_of_toNat_eq h0)
    omega

/-- Joining two seven-bit fields of which one is not 0 in bits 4:0 gives such a field. -/
theorem or_bankField_range {x y : BitVec 9} (hx : x.toNat < 0x80) (hy : y.toNat < 0x80)
    (h : x.toNat % 32 ≠ 0 ∨ y.toNat % 32 ≠ 0) :
    (x ||| y).toNat ≤ 0x7F ∧ (x ||| y).toNat % 32 ≠ 0 := by
  have hlt : x.toNat ||| y.toNat < 2 ^ 7 := Nat.or_lt_two_pow hx hy
  have hmod : (x.toNat ||| y.toNat) % 32 = x.toNat % 32 ||| y.toNat % 32 :=
    Nat.or_mod_two_pow (n := 5)
  rw [BitVec.toNat_or, hmod, Ne, Nat.or_eq_zero_iff]
  omega

/-- MBC1's low command replaces bits 4:0 of the ROM bank by a number that is not 0, its high one
replaces bits 6:5 and keeps bits 4:0 (R67). -/
theorem mbc1Write_inRange {b : Bank} (h : bankInRange .mbc1 b) (addr : Word) (v : Byte) :
    bankInRange .mbc1 (mbc1Write b addr v) := by
  obtain ⟨hle, hmod, hram⟩ := h
  unfold mbc1Write
  simp only []
  split
  · exact ⟨hle, hmod, hram⟩
  split
  · have hfield : (b.romBank &&& 0x60).toNat < 0x80 := Nat.and_lt_two_pow _ (n := 7) (by decide)
    have hlow := clampBank_range (b := (v.extractLsb' 0 5).setWidth 9) (n := 31) (by omega)
      (by simp; omega)
    obtain ⟨hle', hmod'⟩ := or_bankField_range
      (y := clampBank ((v.extractLsb' 0 5).setWidth 9)) hfield (by omega) (.inr (by omega))
    exact ⟨hle', hmod', hram⟩
  split
  · split
    · exact ⟨hle, hmod, by simp; omega⟩
    · have hlow : (b.romBank &&& 0x1F).toNat = b.romBank.toNat % 32 :=
        Nat.and_two_pow_sub_one_eq_mod _ 5
      have hhigh : ((v.extractLsb' 0 2).setWidth 9 <<< 5 : BitVec 9).toNat = v.toNat % 4 * 32 := by
        simp [Nat.shiftLeft_eq]; omega
      obtain ⟨hle', hmod'⟩ := or_bankField_range (x := b.romBank &&& 0x1F)
        (y := (v.extractLsb' 0 2).setWidth 9 <<< 5) (by omega) (by omega) (.inl (by omega))
      exact ⟨hle', hmod', hram⟩
  · exact ⟨hle, hmod, hram⟩

theorem mbc2Write_inRange {b : Bank} (h : bankInRange .mbc2 b) (addr : Word) (v : Byte) :
    bankInRange .mbc2 (mbc2Write b addr v) := by
  obtain ⟨hge, hle, hctl⟩ := h
  unfold mbc2Write
  simp only []
  split
  · exact ⟨hge, hle, hctl⟩
  split
  · obtain ⟨hge', hle'⟩ := clampBank_range (b := (v.extractLsb' 0 5).setWidth 9) (n := 0x1F)
      (by omega) (by simp; omega)
    exact ⟨hge', hle', hctl⟩
  · exact ⟨hge, hle, hctl⟩

theorem mbc3Write_inRange {b : Bank} (h : bankInRange .mbc3 b) (addr : Word) (v : Byte) :
    bankInRange .mbc3 (mbc3Write b addr v) := by
  obtain ⟨hge, hle, hram, hmode⟩ := h
  unfold mbc3Write
  simp only []
  split
  · exact ⟨hge, hle, hram, hmode⟩
  split
  · obtain ⟨hge', hle'⟩ := clampBank_range (b := (v.extractLsb' 0 7).setWidth 9) (n := 0x7F)
      (by omega) (by simp; omega)
    exact ⟨hge', hle', hram, hmode⟩
  split
  · split
    · exact ⟨hge, hle, by simp; omega, hmode⟩
    · exact ⟨hge, hle, hram, hmode⟩
  · exact ⟨hge, hle, hram, hmode⟩

theorem mbc5Write_inRange {b : Bank} (h : bankInRange .mbc5 b) (addr : Word) (v : Byte) :
    bankInRange .mbc5 (mbc5Write b addr v) := by
  obtain ⟨hge, hmode⟩ := h
  have clamp (c : BitVec 9) : 1 ≤ (clampBank c).toNat :=
    (clampBank_range (n := 0x1FF) (by omega) (by omega)).1
  unfold mbc5Write
  simp only []
  split
  · exact ⟨hge, hmode⟩
  split
  · exact ⟨clamp _, hmode⟩
  split
  · exact ⟨clamp _, hmode⟩
  split
  · exact ⟨hge, hmode⟩
  · exact ⟨hge, hmode⟩

/-- A write below 0x8000 keeps the bank registers in their family's ranges (R40, R66-R73). -/
theorem mbcWrite_inRange {fam : Family} {b : Bank} (h : bankInRange fam b) (addr : Word)
    (v : Byte) : bankInRange fam (mbcWrite fam b addr v) := by
  cases fam with
  | romOnly => exact h
  | mbc1 => exact mbc1Write_inRange h addr v
  | mbc2 => exact mbc2Write_inRange h addr v
  | mbc3 => exact mbc3Write_inRange h addr v
  | mbc5 => exact mbc5Write_inRange h addr v
  | unsupported => exact h

end Sys2Proof.Machine
end

section
/-!
SUPPORT. The ranges of the cells that addresses above the bank-control range name.
-/
namespace Sys2Proof.Machine

/-- A byte of cartridge RAM that an address names lies below CART_RAM_SIZE (R57). -/
theorem cellAt_ram_lt {s : State} {addr : Word} {i : Nat} (h : s.cellAt addr = .ram i) :
    i < cartRamSize := by
  unfold State.cellAt at h
  simp only [] at h
  split_ifs at h
  obtain rfl : s.ramIndex addr.toNat = i := Cell.ram.inj h
  exact Nat.mod_lt _ (by decide)

/-- The bytes of the flat array that addresses from 0x8000 up name are the core registers and plain
storage (R42, R53). -/
theorem cellAt_flat_storage {s : State} {addr : Word} {a : Nat} (hlow : ¬addr.toNat < 0x8000)
    (h : s.cellAt addr = .flat a) : a ∈ Spec.coreRegisters ∨ isFlatStorage a = true := by
  have hlt := addr.isLt
  have hrange : (0x8000 ≤ a ∧ a < 0xA000) ∨ (0xC000 ≤ a ∧ a < 0xE000) ∨
      (0xFE00 ≤ a ∧ a < 0x10000) := by
    unfold State.cellAt at h
    simp only [] at h
    split_ifs at h <;> injection h <;> omega
  by_cases hc : a ∈ Spec.coreRegisters
  · exact .inl hc
  · exact .inr (by simpa [isFlatStorage, Spec.coreRegisters, hrange, or_assoc] using hc)

end Sys2Proof.Machine
end

section
/-!
SUPPORT and the settling of O60 and O59. The invariant less its clause on a faulted core is kept by
everything a step does. The clause itself is not kept by RETI or the end of an EI delay, which set
IME, but by whole steps: only a core that has not faulted gets there.
-/
namespace Sys2Proof.Machine

/-- The invariant but for its clause on a faulted core. -/
def State.InvUnfaulted (s : State) : Prop := State.Inv { s with fault := none }

theorem State.Inv.unfaulted {s : State} (h : s.Inv) : s.InvUnfaulted :=
  { h with fault_stops := fun hf => absurd rfl hf }

theorem State.InvUnfaulted.inv {s : State} (h : s.InvUnfaulted)
    (hf : s.fault ≠ none → s.running = false ∧ s.irq.ime = false) : s.Inv :=
  { h with fault_stops := hf }

/-- The rest of the invariant speaks of eiDelay, the timer, the bank registers, the cartridge and
memory alone. -/
theorem State.InvUnfaulted.congr {s t : State} (h : s.InvUnfaulted)
    (hdelay : t.irq.eiDelay ≤ 2) (htimer : t.timer = s.timer) (hbank : t.bank = s.bank)
    (hcart : t.cart = s.cart) (hmem : t.mem = s.mem) : t.InvUnfaulted where
  eiDelay_le := hdelay
  divCounter_lt := htimer ▸ h.divCounter_lt
  scaler_of_tac := htimer ▸ h.scaler_of_tac
  countdown_range := htimer ▸ h.countdown_range
  bank_range := hcart ▸ hbank ▸ h.bank_range
  family_of_rom := hcart ▸ h.family_of_rom
  diag_of_family := hcart ▸ h.diag_of_family
  romLen_ge := hcart ▸ h.romLen_ge
  rom_wf := hcart ▸ h.rom_wf
  ram_wf := hcart ▸ h.ram_wf
  mem_wf := hmem ▸ h.mem_wf
  fault_stops := fun hf => absurd rfl hf

/-- A store to a core register or to plain storage keeps `InvUnfaulted`; one to TAC restarts the
countdown at the new scaler (R60), one to DIV clears the divider (R61). -/
theorem State.InvUnfaulted.writeFlat {s : State} (h : s.InvUnfaulted) {a : Nat} (v : Byte)
    (ha : a ∈ Spec.coreRegisters ∨ isFlatStorage a = true) :
    (s.writeFlat a v).InvUnfaulted := by
  unfold State.writeFlat
  split
  · have hpos := (scaleOf v).cycles_pos
    exact { h with scaler_of_tac := rfl, countdown_range := ⟨by simp; omega, le_refl _⟩ }
  split
  · exact { h with divCounter_lt := Nat.zero_lt_succ 255 }
  split
  · exact { h with }
  split
  · exact { h with }
  split
  · exact { h with }
  split
  · exact { h with }
  · have hs : isFlatStorage a = true := by
      simpa [Spec.coreRegisters, *] using ha
    refine { h with mem_wf := ⟨Memory.wf_set a v h.mem_wf.1, fun cell hc => ?_⟩ }
    rcases Memory.mem_set hc with rfl | hc
    · exact hs
    · exact h.mem_wf.2 cell hc

/-- A bus write keeps `InvUnfaulted`: it is a bank command or a store to one cell. -/
theorem State.InvUnfaulted.busWrite {s : State} (h : s.InvUnfaulted) (addr : Word) (v : Byte) :
    (s.busWrite addr v).InvUnfaulted := by
  rcases busWrite_cases s addr v with ⟨_, e⟩ | ⟨_, i, hc, e⟩ | ⟨hlow, a, hc, e⟩ | ⟨_, _, e⟩ <;>
    rw [e]
  · exact { h with bank_range := mbcWrite_inRange h.bank_range addr v }
  · refine { h with ram_wf := ⟨Memory.wf_set i v h.ram_wf.1, fun cell hcell => ?_⟩ }
    rcases Memory.mem_set hcell with rfl | hcell
    · exact cellAt_ram_lt hc
    · exact h.ram_wf.2 cell hcell
  · exact h.writeFlat v (cellAt_flat_storage hlow hc)
  · exact h

/-- Advancing the timer keeps `InvUnfaulted`: divCounter is a remainder by 256 and the countdown is
brought back into its range (R250, R251). -/
theorem State.InvUnfaulted.timerAdvance {s : State} (h : s.InvUnfaulted) (c : Nat) :
    (timerAdvance c s).InvUnfaulted where
  eiDelay_le := by simpa using h.eiDelay_le
  divCounter_lt := by
    show (Machine.timerAdvance c s).timer.divCounter < 256
    rw [(timerAdvance_div c s).2]
    exact Nat.mod_lt _ (by decide)
  scaler_of_tac := by simpa using h.scaler_of_tac
  countdown_range := by simpa using timerAdvance_countdown c s h.countdown_range
  bank_range := by simpa using h.bank_range
  family_of_rom := by simpa using h.family_of_rom
  diag_of_family := by simpa using h.diag_of_family
  romLen_ge := by simpa using h.romLen_ge
  rom_wf := by simpa using h.rom_wf
  ram_wf := by simpa using h.ram_wf
  mem_wf := by simpa using h.mem_wf
  fault_stops := fun hf => absurd rfl hf

/-- Everything a step does keeps `InvUnfaulted`. -/
theorem keptByStep_invUnfaulted : KeptByStep State.InvUnfaulted where
  write _ a v h := h.busWrite a v
  same s t e h := by
    have hdelay : s.irq.eiDelay ≤ 2 := h.eiDelay_le
    exact h.congr (by have := e.eiDelay; omega) e.timer e.bank e.cart e.mem
  timer c _ h := h.timerAdvance c
  request _ _ _ _ h := h.congr h.eiDelay_le rfl rfl rfl rfl
  delay s h := by
    rw [eiTick_eq]
    exact h.congr ((Nat.sub_le _ _).trans h.eiDelay_le) rfl rfl rfl rfl
  fault _ _ h := h.congr h.eiDelay_le rfl rfl rfl rfl

/-- Executing an instruction that is used leaves the fault record. -/
theorem exec_fault {i : Instr} {s t : State} (hw : wellFormed i = true)
    (h : exec i s = .next t) : t.fault = s.fault := by
  obtain ⟨u, hu, hfault⟩ := exec_keeps (P := fun u => u.fault = s.fault)
    ⟨fun u a v hu => (busWrite_fault u a v).trans hu, fun _ _ e hu => e.fault.trans hu⟩
    (s := s) rfl i hw
  obtain rfl : t = u := Host.Outcome.next.inj (h.symm.trans hu)
  exact hfault

/-- What follows an instruction or a halted tick leaves the fault record. -/
theorem endOfStep_fault (executed : Bool) (c : Nat) (s : State) :
    (endOfStep executed c s).2.fault = s.fault := by
  have hcheck (u : State) : (interruptCheck c u).2.fault = u.fault := by
    rcases interruptCheck_cases c u with ⟨_, e⟩ | ⟨_, _, _, e⟩ | ⟨_, _, _, e⟩ <;> rw [e]
    simp [State.dispatch]
  have htake : (timerAdvance c s).takeExt.fault = s.fault := timerAdvance_fault c s
  unfold endOfStep
  rw [hcheck]
  cases executed with
  | false => exact htake
  | true =>
    show (timerAdvance c s).takeExt.eiTick.fault = s.fault
    rw [eiTick_eq]
    exact htake

/-- A step keeps it that a faulted core is stopped with IME 0: a running core has no fault, and gets
one only by the fault that stops it and clears IME (R241). -/
theorem step_fault_stops {s t : State}
    (hs : s.fault ≠ none → s.running = false ∧ s.irq.ime = false) (h : step s = .next t) :
    t.fault ≠ none → t.running = false ∧ t.irq.ime = false := by
  have hnone (hr : s.running = true) : s.fault = none := by
    by_contra hf
    simp [(hs hf).1] at hr
  rcases step_cases h with
    ⟨_, rfl⟩ | ⟨hr, _, rfl⟩ | ⟨_, _, _, op, rfl⟩ | ⟨hr, _, hw, u, hu, rfl⟩
  · exact hs
  · exact fun hf => absurd ((endOfStep_fault _ _ _).trans (hnone hr)) hf
  · exact fun _ => ⟨rfl, rfl⟩
  · exact fun hf =>
      absurd ((endOfStep_fault _ _ _).trans ((exec_fault hw hu).trans (hnone hr))) hf

/-- Settles O60: a step keeps the clause on a faulted core, and it keeps the rest. -/
theorem stepKeepsInvariant : Obligations.StepKeepsInvariant := by
  intro s t h e
  exact (keptByStep_invUnfaulted.step h.unfaulted e).inv (step_fault_stops h.fault_stops e)

/-- Settles O59: each clause is a fact about the reset values. -/
theorem resetMeetsInvariant : Obligations.ResetMeetsInvariant where
  eiDelay_le := by decide
  divCounter_lt := by decide
  scaler_of_tac := rfl
  countdown_range := by decide
  bank_range := rfl
  family_of_rom := rfl
  diag_of_family := rfl
  romLen_ge := by decide
  rom_wf := ⟨rfl, nofun⟩
  ram_wf := ⟨rfl, nofun⟩
  mem_wf := ⟨rfl, nofun⟩
  fault_stops := fun hf => absurd rfl hf

end Sys2Proof.Machine
end

section
/-!
SUPPORT and the settling of O53: which instructions write IME, eiDelay, halted, running or the fault
record.
-/
namespace Sys2Proof.Machine

/-- The control state: IME, eiDelay, halted, running and the fault record (R28-R31). -/
def State.control (s : State) : Bool × Nat × Bool × Bool × Option FaultRecord :=
  (s.irq.ime, s.irq.eiDelay, s.halted, s.running, s.fault)

theorem control_eq_iff {s t : State} :
    t.control = s.control ↔ t.irq.ime = s.irq.ime ∧ t.irq.eiDelay = s.irq.eiDelay ∧
      t.halted = s.halted ∧ t.running = s.running ∧ t.fault = s.fault := by
  simp [State.control]

section
variable (s : State) (v : Byte) (w : Word)

@[simp] theorem control_advance (n : Nat) : (s.advance n).control = s.control := rfl
@[simp] theorem control_setA : (s.setA v).control = s.control := rfl
@[simp] theorem control_setFlags (f : Flags) : (s.setFlags f).control = s.control := rfl
@[simp] theorem control_setHL : (s.setHL w).control = s.control := rfl
@[simp] theorem control_setPc : (s.setPc w).control = s.control := rfl
@[simp] theorem control_setSp : (s.setSp w).control = s.control := rfl
@[simp] theorem control_popped : s.popped.control = s.control := rfl
@[simp] theorem control_doReturn : s.doReturn.control = s.control := rfl
@[simp] theorem control_jumpRelative : (jumpRelative v s).control = s.control := rfl
@[simp] theorem control_setReg (r : Reg8) : (s.setReg r v).control = s.control := by
  simp [State.control]
@[simp] theorem control_setPair (p : Pair) : (s.setPair p w).control = s.control := by
  simp [State.control]
@[simp] theorem control_setStackPair (p : StackPair) :
    (s.setStackPair p w).control = s.control := by
  simp [State.control]
@[simp] theorem control_busWrite (a : Word) : (s.busWrite a v).control = s.control := by
  simp [State.control]
@[simp] theorem control_busWrite16 (a : Word) : (s.busWrite16 a w).control = s.control := by
  simp [State.busWrite16]
@[simp] theorem control_push : (s.push w).control = s.control := by simp [State.push]
@[simp] theorem control_doCall : (s.doCall w).control = s.control := by simp [State.doCall]
@[simp] theorem control_writeOp (o : Operand8) : (s.writeOp o v).control = s.control := by
  cases o <;> simp [State.writeOp]
@[simp] theorem control_memStep (p : PairMem) : (s.memStep p).control = s.control := by
  cases p <;> simp [State.memStep]

end

/-- Every instruction that is used, but for DI, EI, HALT and RETI, is made of updates that leave the
control state alone; a conditional transfer is so whether it is taken or not. -/
theorem exec_control {i : Instr} (s : State) (hw : wellFormed i = true) (hdi : i ≠ .di)
    (hei : i ≠ .ei) (hhalt : i ≠ .halt) (hreti : i ≠ .reti) :
    ∃ t, exec i s = .next t ∧ t.control = s.control := by
  cases i with
  | di => exact absurd rfl hdi
  | ei => exact absurd rfl hei
  | halt => exact absurd rfl hhalt
  | reti => exact absurd rfl hreti
  | illegal_d3 | illegal_db | illegal_dd | illegal_e3 | illegal_e4 | illegal_eb | illegal_ec |
    illegal_ed | illegal_f4 | illegal_fc | illegal_fd => exact absurd hw (by decide)
  | jp_nz_n16 | jp_z_n16 | jp_nc_n16 | jp_c_n16 | call_nz_n16 | call_z_n16 | call_nc_n16 |
    call_c_n16 | jr_nz_e8 | jr_z_e8 | jr_nc_e8 | jr_c_e8 | ret_nz | ret_z | ret_nc | ret_c =>
    exact ⟨_, rfl, by split <;> simp⟩
  | _ => exact ⟨_, rfl, by simp⟩

/-- Settles O53: EI writes eiDelay alone, HALT halted alone, every other one no control state. -/
theorem onlyNamedInstructionsWriteIme : Obligations.OnlyNamedInstructionsWriteIme := by
  intro i s hdi hreti hw
  by_cases hei : i = .ei
  · subst hei
    exact ⟨_, rfl, rfl, fun h => absurd rfl h, fun _ => rfl, rfl, rfl⟩
  by_cases hhalt : i = .halt
  · subst hhalt
    exact ⟨_, rfl, rfl, fun _ => rfl, fun h => absurd rfl h, rfl, rfl⟩
  obtain ⟨t, ht, hc⟩ := exec_control s hw hdi hei hhalt hreti
  obtain ⟨hime, hdelay, hhalted, hrunning, hfault⟩ := control_eq_iff.mp hc
  exact ⟨t, ht, hime, fun _ => hdelay, fun _ => hhalted, hrunning, hfault⟩

end Sys2Proof.Machine
end

section
/-!
SUPPORT and the settling of O6: the step of a stopped core, and the cycle budget loop step by step.
-/
namespace Sys2Proof.Machine

/-- `step` answers the state of `stepInstruction` (R263). -/
theorem step_eq_next_iff {s t : State} :
    step s = .next t ↔ ∃ r, stepInstruction s = .next (r, t) := by
  unfold step stepState
  cases stepInstruction s with
  | next p =>
    obtain ⟨r, u⟩ := p
    simp
  | fault r => cases r
  | refused r => simp

/-- A stopped core takes no step (R240). -/
theorem stepInstruction_stopped {s : State} (h : s.running = false) :
    stepInstruction s = .next (.stopped, s) := if_pos h

theorem runBudget_stopped {s : State} (h : s.running = false) (fuel : Nat) (b : Int) :
    runBudget fuel b s = .next s := by
  cases fuel with
  | zero => rfl
  | succ fuel => simp [runBudget, h]

/-- A budget that is used up runs nothing, however much it is overshot (R262). -/
theorem runBudget_spent {b : Int} (h : b ≤ 0) (fuel : Nat) (s : State) :
    runBudget fuel b s = .next s := by
  cases fuel with
  | zero => rfl
  | succ fuel =>
    have hb : ¬(0 < b ∧ s.running = true) := fun hb => absurd hb.1 (by omega)
    rw [runBudget, if_neg hb]

/-- With budget left, a running core's completed step takes its cycles off the budget (R262). -/
theorem runBudget_completed {fuel c : Nat} {b : Int} {s t : State} (hb : 0 < b)
    (hr : s.running = true) (h : stepInstruction s = .next (.completed c, t)) :
    runBudget (fuel + 1) b s = runBudget fuel (b - c) t := by
  simp only [runBudget, hb, hr, and_self, if_true, h]

/-- With budget left, a running core's step that faults ends the loop (R262). -/
theorem runBudget_faulted {fuel : Nat} {b : Int} {s t : State} {r : FaultRecord} (hb : 0 < b)
    (hr : s.running = true) (h : stepInstruction s = .next (.faulted r, t)) :
    runBudget (fuel + 1) b s = .next t := by
  simp only [runBudget, hb, hr, and_self, if_true, h]

/-- After a completed step the run goes on with the cycles that are left, or ends where the step
overshoots them (R262). -/
theorem runCycleBudget_completed {n c : Nat} {s t : State} (hn : 0 < n) (hr : s.running = true)
    (h : stepInstruction s = .next (.completed c, t)) :
    runCycleBudget n s = runCycleBudget (n - c) t := by
  have hc := completed_pos h
  obtain ⟨m, rfl⟩ := Nat.exists_eq_add_of_lt hn
  rw [runCycleBudget, runBudget_completed (by omega) hr h, runCycleBudget]
  by_cases hle : c ≤ 0 + m + 1
  · rw [← Nat.cast_sub hle]
    exact runBudget_fuel _ _ _ t (by omega) (by omega)
  · rw [runBudget_spent (by omega), runBudget_spent (by omega)]

theorem runCycleBudget_faulted {n : Nat} {s t : State} {r : FaultRecord} (hn : 0 < n)
    (hr : s.running = true) (h : stepInstruction s = .next (.faulted r, t)) :
    runCycleBudget n s = .next t := by
  obtain ⟨m, rfl⟩ := Nat.exists_eq_add_of_lt hn
  exact runBudget_faulted (by omega) hr h

/-- Settles O6, from what the step of a stopped core and one turn of the budget loop are. -/
theorem stoppedCoreStays : Obligations.StoppedCoreStays := by
  refine ⟨fun s h => ?_, fun _ => rfl, fun s => ?_, fun s n hr => ?_⟩
  · have hs := stepInstruction_stopped h
    exact ⟨step_eq_next_iff.mpr ⟨_, hs⟩, hs, fun n => runBudget_stopped h n n⟩
  · obtain ⟨t, ht⟩ := step_answers s
    obtain ⟨r, hr⟩ := step_eq_next_iff.mp ht
    exact ⟨r, t, hr, ht⟩
  · exact ⟨rfl, fun hn _ _ => runCycleBudget_completed hn hr,
      fun hn _ _ => runCycleBudget_faulted hn hr⟩

end Sys2Proof.Machine
end

section
/-!
SUPPORT and the settling of O9 and O11: reading unwritten bytes, and the decode of a bus read.
-/
namespace Sys2Proof.Machine

/-- A byte of the flat array that is no core register is the one listed, else its draw (R42, D9). -/
theorem readFlat_storage (s : State) {a : Nat} (h : a ∉ Spec.coreRegisters) :
    s.readFlat a = (s.mem.get a).getD (Config.initMem s.env.resets a) := by
  simp only [Spec.coreRegisters, List.mem_cons, List.not_mem_nil, or_false, not_or] at h
  simp [State.readFlat, h]

/-- What a look-up with a default gives is the byte listed, or the default where none is. -/
theorem entryOr_getD (m : Memory) (i : Nat) (d : Byte) : Spec.entryOr m i d ((m.get i).getD d) := by
  rcases Memory.get_cases m i with ⟨v, e, hv⟩ | ⟨e, hno⟩ <;> rw [e]
  · exact .inl hv
  · exact .inr ⟨hno, rfl⟩

/-- The byte read is the one the cell of the decode holds, region by region (R53, R55-R59). -/
theorem busRead_eq (s : State) (a : Word) :
    s.busRead a =
      if a.toNat < 0x4000 then romRead s.cart.rom a.toNat
      else if a.toNat < 0x8000 then romRead s.cart.rom (s.romIndex a.toNat)
      else if 0xA000 ≤ a.toNat ∧ a.toNat < 0xC000 then
        if s.bank.ramEnabled then s.readCell (.ram (s.ramIndex a.toNat)) else openBus
      else if 0xE000 ≤ a.toNat ∧ a.toNat < 0xFE00 then s.readFlat (a.toNat - 0x2000)
      else s.readFlat a.toNat := by
  simp only [State.busRead, State.cellAt, apply_ite s.readCell]
  rfl

/-- The family table, as ranges and as lists of type bytes, is the same (R65). -/
theorem familyOf_eq (t : Byte) :
    familyOf t =
      if t = 0x00 then .romOnly
      else if t ∈ ([0x01, 0x02, 0x03] : List Byte) then .mbc1
      else if t ∈ ([0x05, 0x06] : List Byte) then .mbc2
      else if t ∈ ([0x0F, 0x10, 0x11, 0x12, 0x13] : List Byte) then .mbc3
      else if t ∈ ([0x19, 0x1A, 0x1B] : List Byte) then .mbc5
      else .unsupported := by
  revert t
  decide

/-- Settles O9: a reset is `powerOn` over the same ROM, and its work RAM lists nothing. -/
theorem resetState : Obligations.ResetState := by
  refine ⟨fun _ => rfl, familyOf_eq, rfl, rfl, fun _ => rfl, by decide, rfl, rfl,
    fun a hlo hhi => ?_⟩
  have ha : a ∉ Spec.coreRegisters := by
    simp only [Spec.coreRegisters, List.mem_cons, List.not_mem_nil, or_false]
    omega
  exact readFlat_storage State.reset ha

/-- Settles O11: the decode region by region, then the bytes the cells hold. -/
theorem busReadDecodes : Obligations.BusReadDecodes := by
  refine ⟨fun s a => ⟨busRead_eq s a, rfl, rfl⟩,
    fun s => ⟨⟨rfl, rfl, rfl, rfl, rfl, rfl⟩, rfl, fun i => ⟨rfl, entryOr_getD _ _ _,
      entryOr_getD _ _ _, rfl, fun hi => ?_⟩⟩⟩
  rw [readFlat_storage s hi]
  exact entryOr_getD _ _ _

end Sys2Proof.Machine
end

section
/-!
SUPPORT and the settling of O13: no step changes what the cartridge is.
-/
namespace Sys2Proof.Machine

/-- What the cartridge is, its RAM aside: the ROM, its length, the family, the diagnostic (R41). -/
def State.cartIdentity (s : State) : Memory × Nat × Family × Bool :=
  (s.cart.rom, s.cart.romLen, s.cart.family, s.cart.diag)

theorem cartIdentity_eq_iff {s t : State} :
    t.cartIdentity = s.cartIdentity ↔ t.cart.rom = s.cart.rom ∧ t.cart.romLen = s.cart.romLen ∧
      t.cart.family = s.cart.family ∧ t.cart.diag = s.cart.diag := by
  simp [State.cartIdentity]

theorem cartIdentity_congr {s t : State} (h : t.cart = s.cart) :
    t.cartIdentity = s.cartIdentity := by
  simp [State.cartIdentity, h]

/-- Everything a step does keeps the cartridge's identity: bus writes reach its RAM alone, and nothing
else touches it (R63). -/
theorem keptByStep_cartIdentity (c : Memory × Nat × Family × Bool) :
    KeptByStep fun t => t.cartIdentity = c where
  write s a v h := (cartIdentity_eq_iff.mpr ⟨busWrite_rom s a v, busWrite_romLen s a v,
    busWrite_family s a v, busWrite_diag s a v⟩).trans h
  same _ _ e h := (cartIdentity_congr e.cart).trans h
  timer n s h := (cartIdentity_congr (timerAdvance_cart n s)).trans h
  request _ _ _ _ h := h
  delay s h := by
    rw [eiTick_eq]
    exact h
  fault _ _ h := h

/-- Settles O13: the identity of the cartridge before the step is kept by everything a step does. -/
theorem stepKeepsCartridge : Obligations.StepKeepsCartridge :=
  fun s _ e => cartIdentity_eq_iff.mp ((keptByStep_cartIdentity s.cartIdentity).step rfl e)

end Sys2Proof.Machine
end

section
/-!
SUPPORT and the settling of O12 and O14 to O18: what a bus write does, from the cell its address names.
-/
namespace Sys2Proof.Machine

theorem busWrite_command (s : State) {addr : Word} (v : Byte) (h : addr.toNat < 0x8000) :
    s.busWrite addr v = { s with bank := mbcWrite s.cart.family s.bank addr v } :=
  if_pos h

/-- From 0x8000 up the effect of a bus write depends on the cell its address names alone (R54). -/
theorem busWrite_eq_of_cellAt_eq {s : State} {a b : Word} (v : Byte) (ha : ¬a.toNat < 0x8000)
    (hb : ¬b.toNat < 0x8000) (h : s.cellAt a = s.cellAt b) :
    s.busWrite a v = s.busWrite b v := by
  unfold State.busWrite
  rw [if_neg ha, if_neg hb, h]

theorem busWrite_ram {s : State} {addr : Word} (v : Byte) {i : Nat} (h : ¬addr.toNat < 0x8000)
    (hc : s.cellAt addr = .ram i) :
    s.busWrite addr v = { s with cart.ram := s.cart.ram.set i v } := by
  simp [State.busWrite, h, hc]

theorem busWrite_flat {s : State} {addr : Word} (v : Byte) {i : Nat} (h : ¬addr.toNat < 0x8000)
    (hc : s.cellAt addr = .flat i) : s.busWrite addr v = s.writeFlat i v := by
  simp [State.busWrite, h, hc]

theorem busWrite_dropped {s : State} {addr : Word} (v : Byte) (h : ¬addr.toNat < 0x8000)
    (hc : s.cellAt addr = .openBus) : s.busWrite addr v = s := by
  simp [State.busWrite, h, hc]

/-- Disabled cartridge RAM, and nothing else, is no storage (R58). -/
theorem cellAt_eq_openBus_iff {s : State} {addr : Word} :
    s.cellAt addr = .openBus ↔
      0xA000 ≤ addr.toNat ∧ addr.toNat < 0xC000 ∧ s.bank.ramEnabled = false := by
  unfold State.cellAt
  dsimp only
  split_ifs <;> simp [*] <;> omega

/-- An echo address names the cell that the address 0x2000 below names (R59). -/
theorem cellAt_echo (s : State) {addr : Word} (hlo : 0xE000 ≤ addr.toNat)
    (hhi : addr.toNat < 0xFE00) : s.cellAt addr = s.cellAt (addr - 0x2000) := by
  have hsub : (addr - 0x2000).toNat = addr.toNat - 0x2000 := by bv_omega
  unfold State.cellAt
  dsimp only
  rw [hsub, if_neg (by omega), if_neg (by omega), if_neg (by omega), if_pos ⟨hlo, hhi⟩,
    if_neg (by omega), if_neg (by omega), if_neg (by omega), if_neg (by omega)]

/-- Above the echo range a flat byte is named by its own address alone. -/
theorem toNat_eq_of_cellAt_eq_flat {s : State} {addr : Word} {i : Nat} (hi : 0xFE00 ≤ i)
    (h : s.cellAt addr = .flat i) : addr.toNat = i := by
  unfold State.cellAt at h
  dsimp only at h
  split_ifs at h <;> rw [Cell.flat.injEq] at h <;> omega

/-- But at DIV a store to the flat array leaves divCounter (R61). -/
theorem writeFlat_divCounter (s : State) {i : Nat} (v : Byte) (h : i ≠ 0xFF04) :
    (s.writeFlat i v).timer.divCounter = s.timer.divCounter := by
  unfold State.writeFlat
  rw [if_neg h]
  split_ifs <;> rfl

/-- But at TAC a store to the flat array leaves scaler and countdown (R60). -/
theorem writeFlat_countdown (s : State) {i : Nat} (v : Byte) (h : i ≠ 0xFF07) :
    (s.writeFlat i v).timer.scaler = s.timer.scaler ∧
      (s.writeFlat i v).timer.timaCounter = s.timer.timaCounter := by
  unfold State.writeFlat
  rw [if_neg h]
  split_ifs <;> exact ⟨rfl, rfl⟩

/-- Only a write to DIV changes divCounter (R61). -/
theorem busWrite_divCounter (s : State) {addr : Word} (v : Byte) (h : addr ≠ 0xFF04) :
    (s.busWrite addr v).timer.divCounter = s.timer.divCounter := by
  rcases busWrite_cases s addr v with ⟨_, e⟩ | ⟨_, _, _, e⟩ | ⟨_, i, hc, e⟩ | ⟨_, _, e⟩ <;> rw [e]
  refine writeFlat_divCounter s v fun hi => h (BitVec.eq_of_toNat_eq ?_)
  exact toNat_eq_of_cellAt_eq_flat (by decide) (hi ▸ hc)

/-- Only a write to TAC changes scaler and countdown (R60). -/
theorem busWrite_countdown (s : State) {addr : Word} (v : Byte) (h : addr ≠ 0xFF07) :
    (s.busWrite addr v).timer.scaler = s.timer.scaler ∧
      (s.busWrite addr v).timer.timaCounter = s.timer.timaCounter := by
  rcases busWrite_cases s addr v with ⟨_, e⟩ | ⟨_, _, _, e⟩ | ⟨_, i, hc, e⟩ | ⟨_, _, e⟩ <;> rw [e]
  · exact ⟨rfl, rfl⟩
  · exact ⟨rfl, rfl⟩
  · refine writeFlat_countdown s v fun hi => h (BitVec.eq_of_toNat_eq ?_)
    exact toNat_eq_of_cellAt_eq_flat (by decide) (hi ▸ hc)
  · exact ⟨rfl, rfl⟩

/-- An address that names another cell reads as before a bus write (R78). -/
theorem busRead_busWrite_other (s : State) {a b : Word} (v : Byte) (ha : ¬a.toNat < 0x8000)
    (h : s.cellAt b ≠ s.cellAt a) : (s.busWrite a v).busRead b = s.busRead b := by
  unfold State.busRead
  rw [cellAt_busWrite s v ha b]
  exact readCell_busWrite_other s v h

/-- `SCALE` as arithmetic on the clock select (R38, R54). -/
theorem scaleOf_cycles (v : Byte) :
    (scaleOf v).cycles =
      if v.toNat % 4 = 0 then 1024 else if v.toNat % 4 = 1 then 16
      else if v.toNat % 4 = 2 then 64 else 256 := by
  unfold scaleOf
  split <;> simp_all [Scaler.cycles]

/-- Settles O14: every address names the cell it named, and that cell is storage other than DIV. -/
theorem storeThenLoadReturnsValue : Obligations.StoreThenLoadReturnsValue := by
  intro s a b v hlow hdiv hram hcell
  have ha : ¬a.toNat < 0x8000 := by omega
  have hopen : s.cellAt a ≠ .openBus := fun h => by
    obtain ⟨hlo, hhi, hoff⟩ := cellAt_eq_openBus_iff.mp h
    simp [hram hlo hhi] at hoff
  have hflat : s.cellAt a ≠ .flat 0xFF04 := fun h =>
    hdiv (BitVec.eq_of_toNat_eq (toNat_eq_of_cellAt_eq_flat (by decide) h))
  unfold State.busRead
  rw [cellAt_busWrite s v ha b, hcell]
  exact readCell_busWrite_same s v ha hopen hflat

/-- Settles O15: the frame of a bus write, field by field and cell by cell. -/
theorem busWriteFrame : Obligations.BusWriteFrame := by
  intro s a v
  exact ⟨fun _ => readCell_busWrite_other s v, busWrite_regs s a v, busWrite_flags s a v,
    busWrite_sp s a v, busWrite_pc s a v, busWrite_ime s a v, busWrite_eiDelay s a v,
    busWrite_halted s a v, busWrite_running s a v, busWrite_fault s a v, busWrite_rom s a v,
    busWrite_romLen s a v, busWrite_env s a v,
    fun ha => ⟨busWrite_bank s a v (by omega), fun _ => busRead_busWrite_other s v (by omega)⟩,
    busWrite_divCounter s v, busWrite_countdown s v⟩

/-- Settles O16: the two addresses name the same cell. -/
theorem echoAliasesWorkRam : Obligations.EchoAliasesWorkRam := by
  intro s a v hlo hhi
  have hcell := cellAt_echo s hlo hhi
  have ha : ¬a.toNat < 0x8000 := by omega
  have hb : ¬(a - 0x2000).toNat < 0x8000 := by bv_omega
  exact ⟨congrArg s.readCell hcell, busWrite_eq_of_cellAt_eq v ha hb hcell⟩

/-- Settles O12: the write is a bank command, and cells do not depend on the bank registers. -/
theorem lowWritesAreBankCommands : Obligations.LowWritesAreBankCommands := by
  intro s a v h
  refine ⟨⟨_, busWrite_command s v h⟩, fun cell => ?_⟩
  rw [busWrite_command s v h]
  exact readCell_congr rfl rfl rfl rfl rfl rfl cell

/-- Settles O17: with RAM disabled the address names no storage. -/
theorem disabledRamReadsOpenBus : Obligations.DisabledRamReadsOpenBus := by
  intro s a v hlo hhi hoff
  have hcell : s.cellAt a = .openBus := cellAt_eq_openBus_iff.mpr ⟨hlo, hhi, hoff⟩
  have ha : ¬a.toNat < 0x8000 := by omega
  exact ⟨congrArg s.readCell hcell, busWrite_dropped v ha hcell⟩

/-- Settles O18: each of the six addresses names its own flat byte, which `writeFlat` answers for. -/
theorem tacAndDivWrites : Obligations.TacAndDivWrites :=
  fun _ v => ⟨⟨_, rfl, rfl, scaleOf_cycles v, rfl, rfl⟩, rfl, rfl, rfl, rfl, rfl⟩

end Sys2Proof.Machine
end

section
/-!
SUPPORT and the settling of O20 to O22: the bank commands of each family as arithmetic on the bank
numbers (20_memory.md R66-R73).
-/
namespace Sys2Proof.Machine

theorem clampBank_toNat (b : BitVec 9) :
    (clampBank b).toNat = if b.toNat = 0 then 1 else b.toNat := by
  have hzero : b = 0 ↔ b.toNat = 0 := BitVec.toNat_inj.symm
  unfold clampBank
  simp only [hzero]
  split_ifs <;> rfl

/-- The low `k` bits of the byte, as a bank number. -/
theorem bankField_toNat (v : Byte) {k : Nat} (hk : k ≤ 9) :
    ((v.extractLsb' 0 k).setWidth 9).toNat = v.toNat % 2 ^ k := by
  have : v.toNat % 2 ^ k < 2 ^ 9 :=
    (Nat.mod_lt _ (Nat.two_pow_pos k)).trans_le (Nat.pow_le_pow_right (by decide) hk)
  rw [BitVec.toNat_setWidth, BitVec.extractLsb'_toNat, Nat.shiftRight_zero, Nat.mod_eq_of_lt this]

/-- The bank number that a field of the byte selects, 0 becoming 1. -/
theorem clampBank_field_toNat (v : Byte) {k : Nat} (hk : k ≤ 9) :
    (clampBank ((v.extractLsb' 0 k).setWidth 9)).toNat =
      if v.toNat % 2 ^ k = 0 then 1 else v.toNat % 2 ^ k := by
  rw [clampBank_toNat, bankField_toNat v hk]

/-- A multiple of `2 ^ k` joined with a field of `k` bits is their sum. -/
theorem or_toNat_of_fields {x y : BitVec 9} {k h : Nat} (hx : x.toNat = 2 ^ k * h)
    (hy : y.toNat < 2 ^ k) : (x ||| y).toNat = 2 ^ k * h + y.toNat := by
  rw [BitVec.toNat_or, hx, Nat.two_pow_add_eq_or_of_lt hy]

/-- Bits 6:5 of a bank number (R67). -/
theorem and_0x60_toNat (b : BitVec 9) : (b &&& 0x60).toNat = 2 ^ 5 * (b.toNat / 32 % 4) := by
  revert b
  decide

/-- Bit 8 of a bank number (R71). -/
theorem and_0x100_toNat (b : BitVec 9) : (b &&& 0x100).toNat = 2 ^ 8 * (b.toNat / 256) := by
  revert b
  decide

/-- MBC1's low command replaces bits 4:0 of the ROM bank (R67). -/
theorem mbc1LowBank_toNat (b : BitVec 9) (v : Byte) :
    ((b &&& 0x60) ||| clampBank ((v.extractLsb' 0 5).setWidth 9)).toNat =
      32 * (b.toNat / 32 % 4) + (if v.toNat % 32 = 0 then 1 else v.toNat % 32) := by
  have hlow := clampBank_field_toNat v (k := 5) (by decide)
  rw [or_toNat_of_fields (and_0x60_toNat b) (by rw [hlow]; split_ifs <;> omega), hlow]
  rfl

/-- MBC1's high command in mode 0 replaces bits 6:5 of the ROM bank (R67). -/
theorem mbc1HighBank_toNat (b : BitVec 9) (v : Byte) :
    ((b &&& 0x1F) ||| ((v.extractLsb' 0 2).setWidth 9 <<< 5) : BitVec 9).toNat =
      32 * (v.toNat % 4) + b.toNat % 32 := by
  have hlow : (b &&& ((0x1F : Nat) : BitVec 9)).toNat = b.toNat % 32 :=
    Nat.and_two_pow_sub_one_eq_mod _ 5
  have hhigh : ((v.extractLsb' 0 2).setWidth 9 <<< 5 : BitVec 9).toNat = 2 ^ 5 * (v.toNat % 4) := by
    rw [BitVec.toNat_shiftLeft, bankField_toNat v (by decide), Nat.shiftLeft_eq]
    omega
  rw [BitVec.or_comm, or_toNat_of_fields hhigh (by omega), hlow]
  rfl

/-- MBC5's low command replaces bits 7:0 of the ROM bank, 0 becoming 1 (R71). -/
theorem mbc5LowBank_toNat (b : BitVec 9) (v : Byte) :
    (clampBank ((b &&& 0x100) ||| v.setWidth 9)).toNat =
      if b.toNat / 256 = 0 ∧ v.toNat = 0 then 1 else 256 * (b.toNat / 256) + v.toNat := by
  have hlow : (v.setWidth 9).toNat = v.toNat := by simp; omega
  rw [clampBank_toNat, or_toNat_of_fields (and_0x100_toNat b) (by omega), hlow]
  split_ifs <;> omega

/-- MBC5's high command replaces bit 8 of the ROM bank, 0 becoming 1 (R71). -/
theorem mbc5HighBank_toNat (b : BitVec 9) (v : Byte) :
    (clampBank ((b &&& 0xFF) ||| ((v.extractLsb' 0 1).setWidth 9 <<< 8))).toNat =
      if v.toNat % 2 = 0 ∧ b.toNat % 256 = 0 then 1
      else 256 * (v.toNat % 2) + b.toNat % 256 := by
  have hlow : (b &&& ((0xFF : Nat) : BitVec 9)).toNat = b.toNat % 256 :=
    Nat.and_two_pow_sub_one_eq_mod _ 8
  have hhigh : ((v.extractLsb' 0 1).setWidth 9 <<< 8 : BitVec 9).toNat = 2 ^ 8 * (v.toNat % 2) := by
    rw [BitVec.toNat_shiftLeft, bankField_toNat v (by decide), Nat.shiftLeft_eq]
    omega
  rw [BitVec.or_comm, clampBank_toNat, or_toNat_of_fields hhigh (by omega), hlow]
  split_ifs <;> omega

/-- Address bit 8, as arithmetic (R68). -/
theorem getLsbD_eight (a : Word) : a.getLsbD 8 = decide (a.toNat / 256 % 2 = 1) :=
  Nat.testBit_eq_decide_div_mod_eq

section
variable (b : Bank) (a : Word) (v : Byte)

/-- What each of MBC1's four windows does (R67). -/
theorem mbc1Write_commands :
    let c := mbc1Write b a v
    if a.toNat ≤ 0x1FFF then c = { b with ramEnabled := decide (v.toNat % 16 = 0xA) }
    else if a.toNat ≤ 0x3FFF then
      c = { b with romBank := c.romBank } ∧
      c.romBank.toNat =
        32 * (b.romBank.toNat / 32 % 4) + (if v.toNat % 32 = 0 then 1 else v.toNat % 32)
    else if a.toNat ≤ 0x5FFF then
      if b.mbcMode = true then
        c = { b with ramBank := c.ramBank } ∧ c.ramBank.toNat = v.toNat % 4
      else
        c = { b with romBank := c.romBank } ∧
        c.romBank.toNat = 32 * (v.toNat % 4) + b.romBank.toNat % 32
    else c = { b with mbcMode := decide (v.toNat % 2 = 1) } := by
  unfold mbc1Write
  by_cases h1 : a.toNat ≤ 0x1FFF
  · simp only [if_pos h1, enablesRam]
  by_cases h2 : a.toNat ≤ 0x3FFF
  · simp only [if_neg h1, if_pos h2]
    exact ⟨trivial, mbc1LowBank_toNat b.romBank v⟩
  by_cases h3 : a.toNat ≤ 0x5FFF
  · cases hmode : b.mbcMode with
    | true =>
      simp only [if_neg h1, if_neg h2, if_pos h3, if_true]
      exact ⟨trivial, by simp; omega⟩
    | false =>
      simp only [if_neg h1, if_neg h2, if_pos h3, Bool.false_eq_true, if_false]
      exact ⟨trivial, mbc1HighBank_toNat b.romBank v⟩
  · simp only [if_neg h1, if_neg h2, if_neg h3]
    rw [BitVec.getLsbD, Nat.testBit_zero]

/-- What each of MBC2's windows does, by address bit 8 (R68). -/
theorem mbc2Write_commands :
    let c := mbc2Write b a v
    if a.toNat ≤ 0x1FFF ∧ a.toNat / 256 % 2 = 0 then
      c = { b with ramEnabled := decide (v.toNat % 16 = 0xA) }
    else if a.toNat ≤ 0x3FFF ∧ a.toNat / 256 % 2 = 1 then
      c = { b with romBank := c.romBank } ∧
      c.romBank.toNat = (if v.toNat % 32 = 0 then 1 else v.toNat % 32)
    else c = b := by
  unfold mbc2Write
  simp only [getLsbD_eight, decide_eq_true_eq, decide_eq_false_iff_not, Nat.mod_two_not_eq_one]
  by_cases h1 : a.toNat ≤ 0x1FFF ∧ a.toNat / 256 % 2 = 0
  · simp only [if_pos h1, enablesRam]
  by_cases h2 : a.toNat ≤ 0x3FFF ∧ a.toNat / 256 % 2 = 1
  · simp only [if_neg h1, if_pos h2]
    exact ⟨trivial, clampBank_field_toNat v (k := 5) (by decide)⟩
  · simp only [if_neg h1, if_neg h2]

/-- What each of MBC3's windows does, the clock's commands being ignored (R69, R70). -/
theorem mbc3Write_commands :
    let c := mbc3Write b a v
    if a.toNat ≤ 0x1FFF then c = { b with ramEnabled := decide (v.toNat % 16 = 0xA) }
    else if a.toNat ≤ 0x3FFF then
      c = { b with romBank := c.romBank } ∧
      c.romBank.toNat = (if v.toNat % 128 = 0 then 1 else v.toNat % 128)
    else if a.toNat ≤ 0x5FFF ∧ v.toNat < 8 then
      c = { b with ramBank := c.ramBank } ∧ c.ramBank.toNat = v.toNat
    else c = b := by
  unfold mbc3Write
  by_cases h1 : a.toNat ≤ 0x1FFF
  · simp only [if_pos h1, enablesRam]
  by_cases h2 : a.toNat ≤ 0x3FFF
  · simp only [if_neg h1, if_pos h2]
    exact ⟨trivial, clampBank_field_toNat v (k := 7) (by decide)⟩
  by_cases h3 : a.toNat ≤ 0x5FFF ∧ v.toNat < 8
  · simp only [if_neg h1, if_neg h2, if_pos h3, if_pos h3.1, if_pos h3.2]
    exact ⟨trivial, by simp; omega⟩
  · simp only [if_neg h1, if_neg h2, if_neg h3, ← ite_and]

/-- What each of MBC5's windows does (R71). -/
theorem mbc5Write_commands :
    let c := mbc5Write b a v
    if a.toNat ≤ 0x1FFF then c = { b with ramEnabled := decide (v.toNat % 16 = 0xA) }
    else if a.toNat ≤ 0x2FFF then
      c = { b with romBank := c.romBank } ∧
      c.romBank.toNat =
        (if b.romBank.toNat / 256 = 0 ∧ v.toNat = 0 then 1
        else 256 * (b.romBank.toNat / 256) + v.toNat)
    else if a.toNat ≤ 0x3FFF then
      c = { b with romBank := c.romBank } ∧
      c.romBank.toNat =
        (if v.toNat % 2 = 0 ∧ b.romBank.toNat % 256 = 0 then 1
        else 256 * (v.toNat % 2) + b.romBank.toNat % 256)
    else if a.toNat ≤ 0x5FFF then
      c = { b with ramBank := c.ramBank } ∧ c.ramBank.toNat = v.toNat % 16
    else c = b := by
  unfold mbc5Write
  by_cases h1 : a.toNat ≤ 0x1FFF
  · simp only [if_pos h1, enablesRam]
  by_cases h2 : a.toNat ≤ 0x2FFF
  · simp only [if_neg h1, if_pos h2]
    exact ⟨trivial, mbc5LowBank_toNat b.romBank v⟩
  by_cases h3 : a.toNat ≤ 0x3FFF
  · simp only [if_neg h1, if_neg h2, if_pos h3]
    exact ⟨trivial, mbc5HighBank_toNat b.romBank v⟩
  by_cases h4 : a.toNat ≤ 0x5FFF
  · simp only [if_neg h1, if_neg h2, if_neg h3, if_pos h4]
    exact ⟨trivial, by simp [BitVec.extractLsb'_toNat]⟩
  · simp only [if_neg h1, if_neg h2, if_neg h3, if_neg h4]

end

/-- Settles O20: the write is MBC1's command, read off window by window. -/
theorem mbc1Commands : Obligations.Mbc1Commands := by
  intro s a v hfam ha
  have hc := mbc1Write_commands s.bank a v
  have hwrite : s.busWrite a v = { s with bank := mbc1Write s.bank a v } := by
    rw [busWrite_command s v ha, hfam]
    rfl
  refine ⟨_, hwrite, fun h => ?_, fun hlo hhi => ?_, fun hlo hhi hmode => ?_,
    fun hlo hhi hmode => ?_, fun hlo => ?_⟩
  · rwa [if_pos h] at hc
  · rwa [if_neg (by omega), if_pos hhi] at hc
  · rwa [if_neg (by omega), if_neg (by omega), if_pos hhi, if_neg (by simp [hmode])] at hc
  · rwa [if_neg (by omega), if_neg (by omega), if_pos hhi, if_pos hmode] at hc
  · rwa [if_neg (by omega), if_neg (by omega), if_neg (by omega)] at hc

/-- Settles O21: the write is the command of the cartridge's family. -/
theorem otherBankCommands : Obligations.OtherBankCommands := by
  intro s a v ha
  refine ⟨_, busWrite_command s v ha, fun hfam => ?_, fun hfam => ?_, fun hfam => ?_⟩ <;> rw [hfam]
  · exact mbc2Write_commands s.bank a v
  · exact mbc3Write_commands s.bank a v
  · exact mbc5Write_commands s.bank a v

/-- Settles O22: by the family, `mbcWrite` answers the bank registers it was given, and `effRamBank`
the bank in effect. -/
theorem ramBankInEffect : Obligations.RamBankInEffect := by
  refine fun s => ⟨fun hfam => ⟨?_, fun a v ha => ?_⟩, fun hfam => ?_, fun hfam => ?_, ?_,
    fun _ => rfl⟩
  · rcases hfam with hfam | hfam <;> simp [State.effRamBank, hfam]
  · have hnone : mbcWrite s.cart.family s.bank a v = s.bank := by
      rcases hfam with hfam | hfam <;> rw [hfam] <;> rfl
    rw [busWrite_command s v ha, hnone]
  · cases hmode : s.bank.mbcMode <;> simp [State.effRamBank, hfam, hmode]
  · simp [State.effRamBank, hfam]
  · rintro (hfam | hfam) <;> simp [State.effRamBank, hfam]

end Sys2Proof.Machine
end

section
/-!
SUPPORT and the settling of O19: each kind of write done twice is the write done once.
-/
namespace Sys2Proof.Machine

@[simp] theorem Memory.set_set_same (m : Memory) (a : Nat) (v : Byte) :
    (m.set a v).set a v = m.set a v := by
  induction m with
  | nil => simp [Memory.set]
  | cons c m ih =>
    obtain ⟨k, w⟩ := c
    simp only [Memory.set]
    split_ifs with hlt heq
    · simp [Memory.set]
    · simp [Memory.set]
    · simp [Memory.set, hlt, heq, ih]

theorem writeFlat_idem (s : State) (i : Nat) (v : Byte) :
    (s.writeFlat i v).writeFlat i v = s.writeFlat i v := by
  unfold State.writeFlat
  split_ifs <;> simp

/-- Replacing the bits outside a mask twice by the same bits is replacing them once. -/
theorem masked_or_idem (b m x : BitVec 9) : ((b &&& m ||| x) &&& m) ||| x = b &&& m ||| x := by
  ext i
  simp only [BitVec.getElem_or, BitVec.getElem_and]
  cases b[i] <;> cases m[i] <;> cases x[i] <;> rfl

/-- So it is where bank 0 is remapped to 1: the mask keeps bank 1 or gives 0, which is remapped again
(R73). -/
theorem clampBank_masked_or_idem (b m x : BitVec 9) :
    clampBank (clampBank (b &&& m ||| x) &&& m ||| x) = clampBank (b &&& m ||| x) := by
  by_cases hz : b &&& m ||| x = 0
  · have hx : x = 0 := (BitVec.or_eq_zero_iff.mp hz).2
    have hone : ∀ n : BitVec 9, clampBank (1 &&& n) = 1 := by decide
    rw [hz, hx]
    exact (congrArg clampBank (BitVec.or_zero)).trans (hone m)
  · have hid : clampBank (b &&& m ||| x) = b &&& m ||| x := if_neg hz
    rw [hid, masked_or_idem]
    exact hid

/-- A bank command given twice leaves what giving it once leaves (R79). -/
theorem mbcWrite_idem (fam : Family) (b : Bank) (a : Word) (v : Byte) :
    mbcWrite fam (mbcWrite fam b a v) a v = mbcWrite fam b a v := by
  cases fam with
  | romOnly | unsupported => rfl
  | mbc1 =>
    simp only [mbcWrite, mbc1Write]
    split_ifs <;> simp [masked_or_idem]
  | mbc2 =>
    simp only [mbcWrite, mbc2Write]
    split_ifs <;> rfl
  | mbc3 =>
    simp only [mbcWrite, mbc3Write]
    split_ifs <;> rfl
  | mbc5 =>
    simp only [mbcWrite, mbc5Write]
    split_ifs <;> simp [clampBank_masked_or_idem]

/-- Settles O19: the second write is of the same kind, at the same cell, as the first. -/
theorem repeatedWriteIsIdempotent : Obligations.RepeatedWriteIsIdempotent := by
  intro s a v
  rcases busWrite_cases s a v with ⟨h, e⟩ | ⟨h, i, hc, e⟩ | ⟨h, i, hc, e⟩ | ⟨_, _, e⟩
  · rw [e, busWrite_command _ v h]
    simp [mbcWrite_idem]
  · have hc' : (s.busWrite a v).cellAt a = .ram i := (cellAt_busWrite s v h a).trans hc
    rw [busWrite_ram v h hc', e]
    simp
  · have hc' : (s.busWrite a v).cellAt a = .flat i := (cellAt_busWrite s v h a).trans hc
    rw [busWrite_flat v h hc', e]
    exact writeFlat_idem s i v
  · rw [e, e]

end Sys2Proof.Machine
end

section
/-!
SUPPORT and the settling of O2, O3, O4 and O1. Three facts carry them: the decoder inverts the
encoder (by constructor), the encoder inverts the decoder (by the fields of R92, block by block), and
decoding a list reads as many bytes as the first one says.
-/
namespace Sys2Proof

/-! Every instruction is what its own bytes decode to. -/

/-- The instruction a list of bytes stands for, a missing byte counting as 0. -/
def decodePadded : List Byte → Instr
  | [] => decodeBytes 0 0 0
  | [b0] => decodeBytes b0 0 0
  | [b0, b1] => decodeBytes b0 b1 0
  | b0 :: b1 :: b2 :: _ => decodeBytes b0 b1 b2

/-- A 16-bit immediate is joined from the two bytes it was cut into; every other instruction's bytes
are read as they stand (R98, R99, R100). -/
theorem decodePadded_encode (i : Instr) : decodePadded (encode i) = i := by
  cases i with
  | ld_bc_n16 n | ld_de_n16 n | ld_hl_n16 n | ld_sp_n16 n | ld_mN16_sp n | ld_mN16_a n
  | ld_a_mN16 n | jp_n16 n | jp_nz_n16 n | jp_z_n16 n | jp_nc_n16 n | jp_c_n16 n
  | call_n16 n | call_nz_n16 n | call_z_n16 n | call_nc_n16 n | call_c_n16 n =>
    refine Eq.trans ?_ (congrArg _ (catBytes_hi_lo n))
    rfl
  | _ => rfl

/-- No instruction is out of the decoder's reach (R91). -/
theorem exists_decodeBytes_eq (i : Instr) : ∃ b0 b1 b2, decodeBytes b0 b1 b2 = i := by
  have h := decodePadded_encode i
  unfold decodePadded at h
  split at h <;> exact ⟨_, _, _, h⟩

/-! Every byte is the opcode of its fields. -/

/-- The opcode with fields x, y and z (R92). -/
def opcodeOf (x : Nat) (y z : Fin 8) : Byte := BitVec.ofNat 8 (64 * x + 8 * y.val + z.val)

theorem fieldX_lt (b : Byte) : fieldX b < 4 := by
  have := b.isLt
  unfold fieldX
  omega

/-- The fields x, y and z of a byte determine it (R92). -/
theorem opcodeOf_fields (b : Byte) : opcodeOf (fieldX b) (fieldY b) (fieldZ b) = b := by
  have := b.isLt
  apply BitVec.eq_of_toNat_eq
  simp only [opcodeOf, fieldX, fieldY, fieldZ, Fin.ofNat, BitVec.toNat_ofNat]
  omega

/-! Encoding what a block of the opcode map decodes to. -/

theorem encode_rot (y z : Fin 8) :
    encode (Form.rot (rotOfCode y) (operand8OfCode z)) = [cbPrefix, opcodeOf 0 y z] := by
  fin_cases y <;> fin_cases z <;> rfl

theorem encode_bit (y z : Fin 8) :
    encode (Form.bit y (operand8OfCode z)) = [cbPrefix, opcodeOf 1 y z] := by
  fin_cases y <;> fin_cases z <;> rfl

theorem encode_res (y z : Fin 8) :
    encode (Form.res y (operand8OfCode z)) = [cbPrefix, opcodeOf 2 y z] := by
  fin_cases y <;> fin_cases z <;> rfl

theorem encode_set (y z : Fin 8) :
    encode (Form.set y (operand8OfCode z)) = [cbPrefix, opcodeOf 3 y z] := by
  fin_cases y <;> fin_cases z <;> rfl

/-- The CB table, block by block: its 256 second bytes have 256 meanings (R100). -/
theorem encode_decodeCB (cb : Byte) : encode (decodeCB cb) = [cbPrefix, cb] := by
  have hop := opcodeOf_fields cb
  have hx := fieldX_lt cb
  unfold decodeCB
  interval_cases fieldX cb
  · simpa only [hop] using encode_rot (fieldY cb) (fieldZ cb)
  · simpa only [hop] using encode_bit (fieldY cb) (fieldZ cb)
  · simpa only [hop] using encode_res (fieldY cb) (fieldZ cb)
  · simpa only [hop] using encode_set (fieldY cb) (fieldZ cb)

/-- Opcodes 0x00-0x3F, with the operand bytes of the word `nn` after them (R99). -/
theorem encode_decodeX0 (y z : Fin 8) (nn : Word) :
    encode (decodeX0 (opcodeOf 0 y z) (loByte nn) nn) =
      [opcodeOf 0 y z, loByte nn, hiByte nn].take (lengthOfFirst (opcodeOf 0 y z)) := by
  fin_cases z <;> fin_cases y <;> rfl

/-- Opcodes 0x40-0x7F are one byte, whatever follows them (R99). -/
theorem encode_ld (y z : Fin 8) (b1 b2 : Byte) :
    encode (Form.ld (operand8OfCode y) (operand8OfCode z)) =
      [opcodeOf 1 y z, b1, b2].take (lengthOfFirst (opcodeOf 1 y z)) := by
  fin_cases y <;> fin_cases z <;> rfl

/-- Opcodes 0x80-0xBF are one byte, whatever follows them (R99). -/
theorem encode_alu (y z : Fin 8) (b1 b2 : Byte) :
    encode (Form.alu (aluOfCode y) (.op (operand8OfCode z))) =
      [opcodeOf 2 y z, b1, b2].take (lengthOfFirst (opcodeOf 2 y z)) := by
  fin_cases y <;> fin_cases z <;> rfl

/-- Opcodes 0xC0-0xFF: 0xCB, at y = 1 in column 3, leads to the CB table (R99, R103). -/
theorem encode_decodeX3 (y z : Fin 8) (nn : Word) :
    encode (decodeX3 (opcodeOf 3 y z) (loByte nn) nn) =
      [opcodeOf 3 y z, loByte nn, hiByte nn].take (lengthOfFirst (opcodeOf 3 y z)) := by
  match z with
  | 3 =>
    match y with
    | 1 => exact encode_decodeCB (loByte nn)
    | 0 | 2 | 3 | 4 | 5 | 6 | 7 => rfl
  | 0 | 1 | 2 | 4 | 5 | 6 | 7 => fin_cases y <;> rfl

/-- Encoding what three bytes decode to gives back the first of them, as many as the first one says
(R90, R91, R103). -/
theorem encode_decodeBytes (b0 b1 b2 : Byte) :
    encode (decodeBytes b0 b1 b2) = [b0, b1, b2].take (lengthOfFirst b0) := by
  have hop := opcodeOf_fields b0
  have hx := fieldX_lt b0
  unfold decodeBytes
  interval_cases fieldX b0
  · simpa [hop] using encode_decodeX0 (fieldY b0) (fieldZ b0) (catBytes b2 b1)
  · simpa only [hop] using encode_ld (fieldY b0) (fieldZ b0) b1 b2
  · simpa only [hop] using encode_alu (fieldY b0) (fieldZ b0) b1 b2
  · simpa [hop] using encode_decodeX3 (fieldY b0) (fieldZ b0) (catBytes b2 b1)

/-! Decoding a list. -/

theorem lengthOfFirst_cases (op : Byte) :
    lengthOfFirst op = 1 ∨ lengthOfFirst op = 2 ∨ lengthOfFirst op = 3 := by
  unfold lengthOfFirst
  split_ifs <;> simp

/-- Decoding takes the bytes the first one asks for and leaves the rest (R90). -/
theorem decode_take_append (b0 b1 b2 : Byte) (rest : List Byte) :
    decode ([b0, b1, b2].take (lengthOfFirst b0) ++ rest) =
      .ok (decodePadded ([b0, b1, b2].take (lengthOfFirst b0)), rest) := by
  rcases lengthOfFirst_cases b0 with h | h | h <;> simp [decode, decodePadded, h]

/-- The bytes of an instruction decode to it, whatever follows them (R90, R91). -/
theorem decode_encode_append (i : Instr) (rest : List Byte) :
    decode (encode i ++ rest) = .ok (i, rest) := by
  obtain ⟨b0, b1, b2, hi⟩ := exists_decodeBytes_eq i
  have he : encode i = [b0, b1, b2].take (lengthOfFirst b0) := hi ▸ encode_decodeBytes b0 b1 b2
  calc decode (encode i ++ rest)
      = .ok (decodePadded (encode i), rest) := by rw [he, decode_take_append]
    _ = .ok (i, rest) := by rw [decodePadded_encode]

/-! The unused opcodes. -/

theorem wellFormed_eq_false_iff (i : Instr) : wellFormed i = false ↔ i ∈ illegalSlots := by
  simp [wellFormed]

/-- Each unused slot is encoded by its one opcode (R101). -/
theorem illegalSlots_encode : illegalSlots.map encode = illegalOpcodes.map ([·]) := rfl

/-- The unused opcodes decode to the unused slots, whatever follows them (R101). -/
theorem illegalOpcodes_decodeBytes (b1 b2 : Byte) :
    illegalOpcodes.map (decodeBytes · b1 b2) = illegalSlots := rfl

/-- The first byte is never lost: every instruction is at least one byte long (R90). -/
theorem head_encode_decodeBytes (b0 b1 b2 : Byte) :
    (encode (decodeBytes b0 b1 b2)).head? = some b0 := by
  rw [encode_decodeBytes]
  rcases lengthOfFirst_cases b0 with h | h | h <;> rw [h] <;> rfl

/-- An instruction in an unused slot is encoded by an unused opcode, which is the first byte it was
decoded from. -/
theorem decodeBytes_mem_illegalSlots_iff (b0 b1 b2 : Byte) :
    decodeBytes b0 b1 b2 ∈ illegalSlots ↔ b0 ∈ illegalOpcodes := by
  constructor
  · intro h
    have hmem := illegalSlots_encode ▸ List.mem_map_of_mem (f := encode) h
    obtain ⟨op, hop, he⟩ := List.mem_map.mp hmem
    have hb0 : some op = some b0 := head_encode_decodeBytes b0 b1 b2 ▸ congrArg List.head? he
    exact Option.some.inj hb0 ▸ hop
  · intro h
    exact illegalOpcodes_decodeBytes b1 b2 ▸ List.mem_map_of_mem (f := (decodeBytes · b1 b2)) h

/-! The obligations. -/

/-- Settles O2: every instruction is decoded from some three bytes, and its encoding is the first of
them. -/
theorem encodeThenDecode : Obligations.EncodeThenDecode := decode_encode_append

/-- Settles O3: the fields of the first byte give it back, and the three bytes as a list are the
encoding followed by the bytes left over. -/
theorem decodeThenEncode : Obligations.DecodeThenEncode := by
  intro b0 b1 b2
  have he := encode_decodeBytes b0 b1 b2
  refine ⟨he, ?_⟩
  calc decode [b0, b1, b2]
      = decode ([b0, b1, b2].take (lengthOfFirst b0) ++ [b0, b1, b2].drop (lengthOfFirst b0)) := by
        rw [List.take_append_drop]
    _ = .ok (decodeBytes b0 b1 b2, [b0, b1, b2].drop (lengthOfFirst b0)) := by
        rw [← he, decode_encode_append]

/-- Settles O4: the unused slots are not well-formed, and only the unused opcodes decode to them. -/
theorem unusedOpcodesAreEleven : Obligations.UnusedOpcodesAreEleven := fun b0 b1 b2 =>
  (wellFormed_eq_false_iff _).trans (decodeBytes_mem_illegalSlots_iff b0 b1 b2)

/-- Settles O1, by evaluating the decoder on each word. -/
theorem sampleWordsDecode : Obligations.SampleWordsDecode := by
  unfold Obligations.SampleWordsDecode
  and_intros <;> rfl

end Sys2Proof
end

section
/-!
SUPPORT. What the 8-bit instructions share: their coding and cost, PC past their own bytes, the zero
flag as a number, and the one cell that writing an operand may change (30_encoding.md R92, R93;
70_reset_and_hazards.md R285).
-/
namespace Sys2Proof.Machine

open Sys2Proof.Spec

/-- An instruction whose first byte has one count in the cost table costs that much in every state. -/
theorem codedAs_of_always {i : Instr} {op : Byte} {rest : List Byte} {n : Nat}
    (he : encode i = op :: rest) (hc : primaryCost op = .always n) : codedAs i (op :: rest) n :=
  ⟨he, fun s => by simp [cycles, costOfBytes, he, hc]⟩

/-- The ALU block of the opcode map, 0x80-0xBF and column 6 of 0xC0-0xFF (R96, R99, R285). -/
theorem aluForms_aluOfCode (y : Fin 8) : aluForms (aluOfCode y) y.val := by
  have hop : ∀ y z : Fin 8, primaryCost (BitVec.ofNat 8 (0x80 + 8 * y.val + z.val)) =
      .always (if z = 6 then 8 else 4) := by decide
  have himm : ∀ y : Fin 8, primaryCost (BitVec.ofNat 8 (0xC6 + 8 * y.val)) = .always 8 := by decide
  refine ⟨fun z => codedAs_of_always ?_ (hop y z), fun n => codedAs_of_always ?_ (himm y)⟩
  · fin_cases y <;> fin_cases z <;> rfl
  · fin_cases y <;> rfl

/-- Columns 4 and 5 of 0x00-0x3F: INC and DEC of each operand code (R99, R285). -/
theorem codedAs_inc_dec (y : Fin 8) :
    codedAs (Form.inc (operand8OfCode y)) [BitVec.ofNat 8 (0x04 + 8 * y.val)]
      (if y = 6 then 12 else 4) ∧
    codedAs (Form.dec (operand8OfCode y)) [BitVec.ofNat 8 (0x05 + 8 * y.val)]
      (if y = 6 then 12 else 4) := by
  have hinc : ∀ y : Fin 8, primaryCost (BitVec.ofNat 8 (0x04 + 8 * y.val)) =
      .always (if y = 6 then 12 else 4) := by decide
  have hdec : ∀ y : Fin 8, primaryCost (BitVec.ofNat 8 (0x05 + 8 * y.val)) =
      .always (if y = 6 then 12 else 4) := by decide
  refine ⟨codedAs_of_always ?_ (hinc y), codedAs_of_always ?_ (hdec y)⟩ <;> fin_cases y <;> rfl

theorem encode_alu_length (op : AluOp) (src : Src) :
    (encode (Form.alu op src)).length = srcLength src := by
  rcases src with (r | _) | n
  · cases op <;> cases r <;> rfl
  all_goals cases op <;> rfl

theorem encode_inc_length (o : Operand8) : (encode (Form.inc o)).length = 1 := by
  rcases o with r | _
  · cases r <;> rfl
  · rfl

theorem encode_dec_length (o : Operand8) : (encode (Form.dec o)).length = 1 := by
  rcases o with r | _
  · cases r <;> rfl
  · rfl

/-- Setting PC to `next` is moving it past the instruction's bytes (R11). -/
theorem setPc_next {i : Instr} {n : Nat} (h : (encode i).length = n) (s : State) :
    ({ s with pc := next i s } : State) = s.advance n := by
  subst h
  rfl

@[simp] theorem advance_readOp (s : State) (n : Nat) (o : Operand8) :
    (s.advance n).readOp o = s.readOp o := by
  cases o <;> simp [State.readOp]

@[simp] theorem advance_srcValue (s : State) (n : Nat) (src : Src) :
    (s.advance n).srcValue src = s.srcValue src := by
  cases src <;> simp [State.srcValue]

/-- The zero flag of a byte, as a number. -/
theorem beq_zero_eq (v : Byte) : (v == 0) = decide (v.toNat = 0) := by
  rw [beq_eq_decide]
  exact decide_eq_decide.mpr BitVec.toNat_inj.symm

theorem ofInt_sub {w : Nat} (x y : Int) :
    BitVec.ofInt w (x - y) = BitVec.ofInt w x - BitVec.ofInt w y := by
  rw [sub_eq_add_neg, BitVec.ofInt_add, BitVec.ofInt_neg, ← sub_eq_add_neg]

/-- The carry flag as the number the spec adds. -/
theorem bool_toNat_eq_ite (b : Bool) : b.toNat = if b then 1 else 0 := Bool.cond_eq_ite b 1 0

/-- A register holds no storage, and writing the operand at HL is one bus write there. -/
theorem storesOnlyOperand_writeOp (s : State) (o : Operand8) (v : Byte) :
    storesOnlyOperand o s (s.writeOp o v) := by
  cases o with
  | reg r =>
    exact readCell_congr (setReg_cart ..) (setReg_mem ..) (setReg_timer ..)
      (congrArg Irq.ifr (setReg_irq ..)) (congrArg Irq.ie (setReg_irq ..)) (setReg_env ..)
  | memHL => exact fun cell h => readCell_busWrite_other s v h

/-- Setting PC and the flags around the write of an operand stores nothing more (R93). -/
theorem storesOnlyOperand_afterWrite (i : Instr) (s : State) (o : Operand8) (v : Byte) (f : Flags) :
    storesOnlyOperand o s (afterWrite i s o v f) := by
  cases o with
  | reg r =>
    exact fun cell => storesOnlyOperand_writeOp (s.setPc (next i s)) (.reg r) v cell
  | memHL =>
    exact fun cell h => storesOnlyOperand_writeOp (s.setPc (next i s)) .memHL v cell h

end Sys2Proof.Machine
end

section
/-!
SUPPORT and the settling of O23, O24, O25 and O26. One theorem says what the state is after any ALU
instruction; what remains of each operation is its result and its flags as arithmetic (40_alu8.md
R110-R119).
-/
namespace Sys2Proof.Machine

open Sys2Proof.Spec

/-- An ALU instruction writes A and the flags, moves PC past its own bytes, and does nothing else. -/
theorem answers_alu (op : AluOp) (src : Src) (s : State) :
    answers (Form.alu op src) s
      { s with
        pc := next (Form.alu op src) s
        regs.a := (alu op s.flags s.regs.a (s.srcValue src)).1
        flags := (alu op s.flags s.regs.a (s.srcValue src)).2 } := by
  unfold answers next
  rw [exec_alu, encode_alu_length, aluOn, advance_srcValue]
  rfl

/-- `add8`, with its zero flag read off the sum (R111). -/
theorem add8_eq (a v : Byte) (cin : Bool) :
    add8 a v cin =
      (BitVec.ofNat 8 (a.toNat + v.toNat + cin.toNat),
        { z := decide ((a.toNat + v.toNat + cin.toNat) % 0x100 = 0)
          n := false
          h := decide (a.toNat % 16 + v.toNat % 16 + cin.toNat > 0xF)
          c := decide (a.toNat + v.toNat + cin.toNat > 0xFF) }) := by
  simp only [add8, bitVal, beq_zero_eq, BitVec.toNat_ofNat]
  rfl

/-- `sub8`, with its zero flag read off the difference (R111). -/
theorem sub8_eq (a v : Byte) (cin : Bool) :
    sub8 a v cin =
      (BitVec.ofInt 8 ((a.toNat : Int) - v.toNat - cin.toNat),
        subFlags a.toNat v.toNat cin.toNat) := by
  have hz : (BitVec.ofInt 8 ((a.toNat : Int) - v.toNat - cin.toNat) == 0) =
      decide (((a.toNat : Int) - v.toNat - cin.toNat) % 0x100 = 0) := by
    rw [beq_zero_eq, BitVec.toNat_ofInt]
    exact decide_eq_decide.mpr (by omega)
  simp only [sub8, bitVal, subFlags, hz]
  rfl

theorem logicFlags_eq (r : Byte) (h : Bool) :
    logicFlags r h = { z := decide (r.toNat = 0), n := false, h := h, c := false } := by
  rw [logicFlags, beq_zero_eq]

/-- An operation that is `add8` with carry in `cin` leaves the sum (R112, R113). -/
theorem answers_add {op : AluOp} {src : Src} {s : State} {cin : Bool}
    (h : alu op s.flags s.regs.a (s.srcValue src) = add8 s.regs.a (s.srcValue src) cin) :
    answers (Form.alu op src) s (afterAdd op src s cin.toNat) := by
  have ha := answers_alu op src s
  rwa [h, add8_eq] at ha

/-- An operation that is `sub8` with borrow in `cin` leaves the difference (R114, R115). -/
theorem answers_sub {op : AluOp} {src : Src} {s : State} {cin : Bool}
    (h : alu op s.flags s.regs.a (s.srcValue src) = sub8 s.regs.a (s.srcValue src) cin) :
    answers (Form.alu op src) s (afterSub op src s cin.toNat) := by
  have ha := answers_alu op src s
  rwa [h, sub8_eq] at ha

/-- An operation that is a logic one with result `r` leaves `r` (R116-R118). -/
theorem answers_logic {op : AluOp} {src : Src} {s : State} {r : Byte} {h : Bool}
    (he : alu op s.flags s.regs.a (s.srcValue src) = (r, logicFlags r h)) :
    answers (Form.alu op src) s (afterLogic op src s r h) := by
  have ha := answers_alu op src s
  rwa [he, logicFlags_eq] at ha

/-- Settles O23: ADD is `add8` without a carry in, ADC with the carry flag. -/
theorem addSetsSumAndFlags : Obligations.AddSetsSumAndFlags :=
  ⟨aluForms_aluOfCode 0, aluForms_aluOfCode 1, fun _ s =>
    ⟨answers_add (cin := false) rfl, bool_toNat_eq_ite s.flags.c ▸ answers_add rfl⟩⟩

/-- Settles O24: SUB is `sub8` without a borrow in, SBC with the carry flag. -/
theorem subSetsDifferenceAndFlags : Obligations.SubSetsDifferenceAndFlags :=
  ⟨aluForms_aluOfCode 2, aluForms_aluOfCode 3, fun _ s =>
    ⟨answers_sub (cin := false) rfl, bool_toNat_eq_ite s.flags.c ▸ answers_sub rfl⟩⟩

/-- Settles O25: each of the three is its bitwise result under the logic flags. -/
theorem logicSetsResultAndFlags : Obligations.LogicSetsResultAndFlags :=
  ⟨aluForms_aluOfCode 4, aluForms_aluOfCode 5, aluForms_aluOfCode 6, fun _ _ =>
    ⟨answers_logic rfl, answers_logic rfl, answers_logic rfl⟩⟩

/-- Settles O26: CP takes the flags of `sub8` and writes A back as it was. -/
theorem compareSetsFlagsOnly : Obligations.CompareSetsFlagsOnly := by
  refine ⟨aluForms_aluOfCode 7, fun src s => ?_⟩
  have hflags : (alu .cp s.flags s.regs.a (s.srcValue src)).2 =
      subFlags s.regs.a.toNat (s.srcValue src).toNat 0 := congrArg Prod.snd (sub8_eq _ _ false)
  rw [← hflags]
  exact answers_alu .cp src s

end Sys2Proof.Machine
end

section
/-!
SUPPORT and the settling of O27 and O30: INC and DEC as arithmetic on the operand's old value, and the
three instructions on A and the flags alone (40_alu8.md R120-R123, R125-R127).
-/
namespace Sys2Proof.Machine

open Sys2Proof.Spec

/-- INC's result and zero flag by the old value (R120). -/
theorem inc8_eq (f : Flags) (v : Byte) :
    inc8 f v =
      (BitVec.ofNat 8 (v.toNat + 1),
        { z := decide (v.toNat = 0xFF), n := false, h := decide (v.toNat % 16 = 0xF), c := f.c }) := by
  have hr : v + 1 = BitVec.ofNat 8 (v.toNat + 1) := by simp [BitVec.ofNat_add]
  have hz : (v + 1 == 0) = decide (v.toNat = 0xFF) := by
    rw [hr, beq_zero_eq, BitVec.toNat_ofNat]
    exact decide_eq_decide.mpr (by omega)
  simp only [inc8, hz]
  rw [hr]

/-- DEC's result and zero flag by the old value (R122). -/
theorem dec8_eq (f : Flags) (v : Byte) :
    dec8 f v =
      (BitVec.ofInt 8 ((v.toNat : Int) - 1),
        { z := decide (v.toNat = 1), n := true, h := decide (v.toNat % 16 = 0), c := f.c }) := by
  have hr : v - 1 = BitVec.ofInt 8 ((v.toNat : Int) - 1) := by simp [ofInt_sub]
  have hz : (v - 1 == 0) = decide (v.toNat = 1) := by
    rw [hr, beq_zero_eq, BitVec.toNat_ofInt]
    exact decide_eq_decide.mpr (by omega)
  simp only [dec8, hz]
  rw [hr]

/-- INC is one write of its operand (R120, R121). -/
theorem answers_inc (o : Operand8) (s : State) :
    answers (Form.inc o) s
      (afterWrite (Form.inc o) s o (inc8 s.flags (s.readOp o)).1 (inc8 s.flags (s.readOp o)).2) := by
  unfold answers afterWrite
  rw [exec_inc, setPc_next (encode_inc_length o), incOn, advance_readOp]
  rfl

/-- DEC is one write of its operand (R122, R123). -/
theorem answers_dec (o : Operand8) (s : State) :
    answers (Form.dec o) s
      (afterWrite (Form.dec o) s o (dec8 s.flags (s.readOp o)).1 (dec8 s.flags (s.readOp o)).2) := by
  unfold answers afterWrite
  rw [exec_dec, setPc_next (encode_dec_length o), decOn, advance_readOp]
  rfl

/-- Settles O27: the operand is written once, and C is the flag that was there. -/
theorem incDecByteKeepsCarry : Obligations.IncDecByteKeepsCarry := by
  refine ⟨codedAs_inc_dec, fun o s => ⟨?_, ?_⟩⟩
  · have h := answers_inc o s
    rw [inc8_eq] at h
    exact ⟨_, h, storesOnlyOperand_afterWrite .., rfl⟩
  · have h := answers_dec o s
    rw [dec8_eq] at h
    exact ⟨_, h, storesOnlyOperand_afterWrite .., rfl⟩

/-- Complementing a byte inverts all its bits. -/
theorem not_eq_xor_0xFF (v : Byte) : ~~~v = v ^^^ 0xFF := BitVec.xor_allOnes.symm

/-- Settles O30: each is one update of the flags; CPL's A is the complement. -/
theorem complementAndCarryFlagOps : Obligations.ComplementAndCarryFlagOps := by
  refine ⟨codedAs_of_always rfl rfl, codedAs_of_always rfl rfl, codedAs_of_always rfl rfl,
    fun s => ⟨?_, rfl, rfl⟩⟩
  rw [← not_eq_xor_0xFF]
  rfl

end Sys2Proof.Machine
end

section
/-!
SUPPORT and the settling of O28 and O29: DAA as one adjustment in integers, and as the carry of a
two-digit sum or difference (40_alu8.md R124; 95_test_vectors.md L1-3).
-/
namespace Sys2Proof.Machine

open Sys2Proof.Spec

/-- DAA corrects the low digit: by H, or after an addition by the digit itself (R124). -/
def daaLow (f : Flags) (a : Int) : Bool := f.h || (!f.n && decide (a % 16 > 9))

/-- DAA corrects the high digit: by C, or after an addition by the value of A (R124). -/
def daaHigh (f : Flags) (a : Int) : Bool := f.c || (!f.n && decide (a > 0x99))

/-- What DAA takes off after a subtraction, else adds (R124). -/
def daaAdjust (f : Flags) (a : Int) : Int :=
  (if daaHigh f a then 0x60 else 0) + (if daaLow f a then 0x06 else 0)

/-- A after DAA, in integers (R124). -/
def daaResult (f : Flags) (a : Int) : Byte :=
  BitVec.ofInt 8 (if f.n then a - daaAdjust f a else a + daaAdjust f a)

/-- The correction of the high digit leaves the low digit, which DAA tests after it. -/
theorem high_correction_low_digit (a : Byte) (high : Bool) :
    (if high then a + 0x60 else a).toNat % 16 = a.toNat % 16 := by
  cases high with
  | false => rfl
  | true =>
    simp only [if_true, BitVec.toNat_add, BitVec.ofNat_eq_ofNat, BitVec.reduceToNat]
    omega

/-- After an addition DAA adds the two corrections. -/
theorem daa_fst_of_add {f : Flags} (hn : f.n = false) (a : Byte) :
    (daa f a).1 =
      a + (if daaHigh f a.toNat then 0x60 else 0) + (if daaLow f a.toNat then 0x06 else 0) := by
  have hhigh : (f.c || decide (a.toNat > 0x99)) = daaHigh f a.toNat := by simp [daaHigh, hn]
  have hlow : (f.h || decide (a.toNat % 16 > 9)) = daaLow f a.toNat := by
    have hdigit : a.toNat % 16 > 9 ↔ (a.toNat : Int) % 16 > 9 := by omega
    simp [daaLow, hn, hdigit]
  simp only [daa, hn, hhigh, high_correction_low_digit, hlow]
  cases daaHigh f a.toNat <;> cases daaLow f a.toNat <;> simp

/-- After a subtraction DAA takes the two corrections off. -/
theorem daa_fst_of_sub {f : Flags} (hn : f.n = true) (a : Byte) :
    (daa f a).1 =
      a - (if daaHigh f a.toNat then 0x60 else 0) - (if daaLow f a.toNat then 0x06 else 0) := by
  cases hc : f.c <;> cases hh : f.h <;> simp [daa, daaHigh, daaLow, hn, hc, hh]

/-- The two corrections are one adjustment in integers. -/
theorem daa_fst (f : Flags) (a : Byte) : (daa f a).1 = daaResult f a.toNat := by
  unfold daaResult daaAdjust
  cases hn : f.n with
  | true =>
    rw [daa_fst_of_sub hn]
    simp [ofInt_sub, BitVec.ofInt_add, apply_ite (BitVec.ofInt 8), sub_sub]
  | false =>
    rw [daa_fst_of_add hn]
    simp [BitVec.ofInt_add, apply_ite (BitVec.ofInt 8), add_assoc]

/-- C after DAA tells the correction of the high digit; N is kept, H cleared (R124). -/
theorem daa_snd (f : Flags) (a : Byte) :
    (daa f a).2 =
      { z := (daa f a).1 == 0, n := f.n, h := false, c := daaHigh f a.toNat } := by
  cases hn : f.n <;> simp [daa, daaHigh, hn]

/-- DAA, with its zero flag read off the result (R124). -/
theorem daa_eq (f : Flags) (a : Byte) :
    daa f a =
      (daaResult f a.toNat,
        { z := decide ((daaResult f a.toNat).toNat = 0)
          n := f.n
          h := false
          c := daaHigh f a.toNat }) := by
  rw [← daa_fst, ← beq_zero_eq, ← daa_snd]

/-- DAA writes A and the flags, moves PC past its byte, and does nothing else. -/
theorem answers_daa (s : State) :
    answers .daa s
      { s with
        pc := next .daa s
        regs.a := (daa s.flags s.regs.a).1
        flags := (daa s.flags s.regs.a).2 } := rfl

/-- Settles O28: the two corrections are one adjustment, in integers. -/
theorem daaAdjusts : Obligations.DaaAdjusts := by
  refine ⟨codedAs_of_always rfl rfl, fun s => ?_⟩
  have h := answers_daa s
  rwa [daa_eq] at h

/-- After a sum DAA corrects the digits that have overflowed: the low one where the low digits' sum is
above 9, the high one where the bytes' sum is above 0x99. -/
theorem daa_add8 (a v : Byte) :
    (daa (add8 a v false).2 (add8 a v false).1).2.c = decide (a.toNat + v.toNat > 0x99) ∧
    (daa (add8 a v false).2 (add8 a v false).1).1.toNat =
      (a.toNat + v.toNat + (if a.toNat + v.toNat > 0x99 then 0x60 else 0) +
        (if a.toNat % 16 + v.toNat % 16 > 9 then 0x06 else 0)) % 0x100 := by
  have hsum : (add8 a v false).1.toNat = (a.toNat + v.toNat) % 0x100 := by simp [add8_eq]
  have hn : (add8 a v false).2.n = false := rfl
  have hhigh : daaHigh (add8 a v false).2 (add8 a v false).1.toNat =
      decide (a.toNat + v.toNat > 0x99) := by
    rw [daaHigh, hn, hsum, add8_eq, Bool.not_false, Bool.true_and, ← Bool.decide_or]
    exact decide_eq_decide.mpr (by simp only [Bool.toNat_false]; omega)
  have hlow : daaLow (add8 a v false).2 (add8 a v false).1.toNat =
      decide (a.toNat % 16 + v.toNat % 16 > 9) := by
    rw [daaLow, hn, hsum, add8_eq, Bool.not_false, Bool.true_and, ← Bool.decide_or]
    exact decide_eq_decide.mpr (by simp only [Bool.toNat_false]; omega)
  rw [daa_eq]
  refine ⟨hhigh, ?_⟩
  simp only [daaResult, daaAdjust, hhigh, hlow, hn, BitVec.toNat_ofInt, decide_eq_true_eq,
    Bool.false_eq_true, if_false]
  split_ifs <;> omega

/-- After a difference DAA corrects the digits that have borrowed. -/
theorem daa_sub8 (a v : Byte) :
    (daa (sub8 a v false).2 (sub8 a v false).1).2.c = decide (a.toNat < v.toNat) ∧
    ((daa (sub8 a v false).2 (sub8 a v false).1).1.toNat : Int) =
      ((a.toNat : Int) - v.toNat - (if a.toNat < v.toNat then 0x60 else 0) -
        (if a.toNat % 16 < v.toNat % 16 then 0x06 else 0)) % 0x100 := by
  have hn : (sub8 a v false).2.n = true := rfl
  have hdiff : ((sub8 a v false).1.toNat : Int) = ((a.toNat : Int) - v.toNat) % 0x100 := by
    simp only [sub8_eq, BitVec.toNat_ofInt, Bool.toNat_false]
    omega
  have hhigh : daaHigh (sub8 a v false).2 (sub8 a v false).1.toNat =
      decide (a.toNat < v.toNat) := by
    simp [daaHigh, sub8_eq, subFlags]
  have hlow : daaLow (sub8 a v false).2 (sub8 a v false).1.toNat =
      decide (a.toNat % 16 < v.toNat % 16) := by
    simp [daaLow, sub8_eq, subFlags]
  rw [daa_eq]
  refine ⟨hhigh, ?_⟩
  simp only [daaResult, daaAdjust, hhigh, hlow, hn, BitVec.toNat_ofInt, decide_eq_true_eq, if_true]
  split_ifs <;> omega

/-- The byte DAA leaves after a sum of decimal bytes is decimal, C its hundreds. -/
theorem decimal_daa_add8 {a v : Byte} (ha : isDecimal a) (hv : isDecimal v) :
    let d := daa (add8 a v false).2 (add8 a v false).1
    isDecimal d.1 ∧ decimal d.1 + (if d.2.c then 100 else 0) = decimal a + decimal v := by
  obtain ⟨hc, hr⟩ := daa_add8 a v
  unfold isDecimal at ha hv
  unfold isDecimal decimal
  simp only [hc, hr, decide_eq_true_eq]
  split_ifs <;> omega

/-- The byte DAA leaves after a difference of decimal bytes is decimal, C its borrowed hundred. -/
theorem decimal_daa_sub8 {a v : Byte} (ha : isDecimal a) (hv : isDecimal v) :
    let d := daa (sub8 a v false).2 (sub8 a v false).1
    isDecimal d.1 ∧ decimal d.1 + decimal v = decimal a + (if d.2.c then 100 else 0) ∧
      (d.2.c = true ↔ decimal a < decimal v) := by
  obtain ⟨hc, hr⟩ := daa_sub8 a v
  unfold isDecimal at ha hv
  unfold isDecimal decimal
  simp only [hc, decide_eq_true_eq]
  split_ifs at hr ⊢ <;> omega

/-- Settles O29: the second instruction adjusts what the first left in A and the flags. -/
theorem daaClosesDecimalArithmetic : Obligations.DaaClosesDecimalArithmetic := fun src s ha hv =>
  ⟨⟨_, _, answers_alu .add src s, answers_daa _, decimal_daa_add8 ha hv⟩,
    _, _, answers_alu .sub src s, answers_daa _, decimal_daa_sub8 ha hv⟩

end Sys2Proof.Machine
end

section
/-!
SUPPORT and the settling of O31 and O32: the columns of the opcode map over the pairs, HL as the two
bytes of a sum, and INC and DEC as one write of a pair, which leaves every other pair
(30_encoding.md R94, R99; 41_alu16.md R141-R143).
-/
namespace Sys2Proof.Machine

open Sys2Proof.Spec

/-- Columns 9, 3 and 11 of 0x00-0x3F: ADD HL, INC and DEC of each pair code (R99, R285). -/
theorem codedAs_addHL_incPair_decPair (p : Pair) :
    codedAs (Form.addHL p) [BitVec.ofNat 8 (0x09 + 16 * pairCode p)] 8 ∧
    codedAs (Form.incPair p) [BitVec.ofNat 8 (0x03 + 16 * pairCode p)] 8 ∧
    codedAs (Form.decPair p) [BitVec.ofNat 8 (0x0B + 16 * pairCode p)] 8 := by
  refine ⟨codedAs_of_always ?_ ?_, codedAs_of_always ?_ ?_, codedAs_of_always ?_ ?_⟩ <;>
    cases p <;> rfl

theorem encode_addHL_length (p : Pair) : (encode (Form.addHL p)).length = 1 := by
  cases p <;> rfl

theorem encode_incPair_length (p : Pair) : (encode (Form.incPair p)).length = 1 := by
  cases p <;> rfl

theorem encode_decPair_length (p : Pair) : (encode (Form.decPair p)).length = 1 := by
  cases p <;> rfl

@[simp] theorem advance_pair (s : State) (n : Nat) (p : Pair) : (s.advance n).pair p = s.pair p := by
  cases p <;> rfl

@[simp] theorem setPc_pair (s : State) (v : Word) (p : Pair) : (s.setPc v).pair p = s.pair p := by
  cases p <;> rfl

@[simp] theorem setPair_regs_a (s : State) (p : Pair) (v : Word) :
    (s.setPair p v).regs.a = s.regs.a := by
  cases p <;> rfl

/-- A pair written reads as written. -/
@[simp] theorem pair_setPair_same (s : State) (p : Pair) (v : Word) : (s.setPair p v).pair p = v := by
  cases p with
  | bc | de | hl => exact catBytes_hi_lo v
  | sp => rfl

/-- Writing a pair leaves every other pair. -/
theorem pair_setPair_other (s : State) {p q : Pair} (v : Word) (h : q ≠ p) :
    (s.setPair p v).pair q = s.pair q := by
  cases p <;> cases q <;> first | rfl | exact absurd rfl h

/-- Writing a pair changes SP or the registers, and nothing else. -/
theorem setPair_eq (s : State) (p : Pair) (v : Word) :
    s.setPair p v = { s with sp := (s.setPair p v).sp, regs := (s.setPair p v).regs } := by
  cases p <;> rfl

theorem hiByte_ofNat (n : Nat) : hiByte (BitVec.ofNat 16 n) = BitVec.ofNat 8 (n / 256) := by
  apply BitVec.eq_of_toNat_eq
  simp only [hiByte_toNat, BitVec.toNat_ofNat]
  omega

theorem loByte_ofNat (n : Nat) : loByte (BitVec.ofNat 16 n) = BitVec.ofNat 8 n := by
  apply BitVec.eq_of_toNat_eq
  simp only [loByte_toNat, BitVec.toNat_ofNat]
  omega

/-- ADD HL,rr writes H, L and the flags, moves PC past its byte, and does nothing else (R141). -/
theorem answers_addHL (p : Pair) (s : State) :
    answers (Form.addHL p) s
      { s with
        pc := next (Form.addHL p) s
        regs.h := hiByte (add16 s.flags s.hl (s.pair p)).1
        regs.l := loByte (add16 s.flags s.hl (s.pair p)).1
        flags := (add16 s.flags s.hl (s.pair p)).2 } := by
  unfold answers next
  rw [exec_addHL, encode_addHL_length, addHLOn, advance_pair]
  rfl

/-- Settles O31: H and L are the two bytes of the sum. -/
theorem addPairToHL : Obligations.AddPairToHL := by
  refine fun p => ⟨(codedAs_addHL_incPair_decPair p).1, fun s => ?_⟩
  have h := answers_addHL p s
  rwa [add16, hiByte_ofNat, loByte_ofNat] at h

/-- The state after an instruction that writes one pair. -/
def afterPairWrite (i : Instr) (s : State) (p : Pair) (v : Word) : State :=
  (s.setPc (next i s)).setPair p v

/-- INC rr is one write of its pair (R142). -/
theorem answers_incPair (p : Pair) (s : State) :
    answers (Form.incPair p) s
      (afterPairWrite (Form.incPair p) s p (BitVec.ofNat 16 ((s.pair p).toNat + 1))) := by
  have hup : s.pair p + 1 = BitVec.ofNat 16 ((s.pair p).toNat + 1) := by simp [BitVec.ofNat_add]
  unfold answers afterPairWrite next
  rw [exec_incPair, encode_incPair_length, incPairOn, advance_pair, hup]
  rfl

/-- DEC rr is one write of its pair (R143). -/
theorem answers_decPair (p : Pair) (s : State) :
    answers (Form.decPair p) s
      (afterPairWrite (Form.decPair p) s p (BitVec.ofInt 16 ((s.pair p).toNat - 1))) := by
  have hdown : s.pair p - 1 = BitVec.ofInt 16 ((s.pair p).toNat - 1) := by simp [ofInt_sub]
  unfold answers afterPairWrite next
  rw [exec_decPair, encode_decPair_length, decPairOn, advance_pair, hdown]
  rfl

theorem afterPairWrite_pair (i : Instr) (s : State) (p q : Pair) (v : Word) :
    (afterPairWrite i s p v).pair q = if q = p then v else s.pair q := by
  unfold afterPairWrite
  split_ifs with h
  · rw [h, pair_setPair_same]
  · rw [pair_setPair_other _ _ h, setPc_pair]

/-- Settles O32: each is one write of its pair, which leaves the other pairs, A and all else. -/
theorem incDecPairKeepsFlags : Obligations.IncDecPairKeepsFlags := by
  intro p
  obtain ⟨-, hinc, hdec⟩ := codedAs_addHL_incPair_decPair p
  exact ⟨hinc, hdec, fun s =>
    ⟨⟨_, answers_incPair p s, fun q => afterPairWrite_pair .., setPair_eq .., setPair_regs_a ..⟩,
      _, answers_decPair p s, fun q => afterPairWrite_pair .., setPair_eq .., setPair_regs_a ..⟩⟩

end Sys2Proof.Machine
end

section
/-!
SUPPORT and the settling of O33: the offset of SP, signed for the sum and a raw byte for the flags
(41_alu16.md R144, R145).
-/
namespace Sys2Proof.Machine

open Sys2Proof.Spec

/-- Adding a sign-extended byte is the signed sum in integers (R8). -/
theorem add_sext8 (w : Word) (e : Byte) :
    w + sext8 e = BitVec.ofInt 16
      ((w.toNat : Int) + if e.toNat < 0x80 then (e.toNat : Int) else e.toNat - 0x100) := by
  have he : (if e.toNat < 0x80 then (e.toNat : Int) else e.toNat - 0x100) = e.toInt := by
    rw [BitVec.toInt_eq_toNat_cond]
    split_ifs <;> omega
  rw [he, BitVec.ofInt_add, BitVec.ofInt_natCast, BitVec.ofNat_toNat, BitVec.setWidth_eq]
  rfl

/-- ADD SP,e8 writes SP and the flags, moves PC past its bytes, and does nothing else (R144). -/
theorem answers_add_sp_e8 (e : Byte) (s : State) :
    answers (.add_sp_e8 e) s
      { s with
        pc := next (.add_sp_e8 e) s
        sp := (addSigned s.sp e).1
        flags := (addSigned s.sp e).2 } := rfl

/-- LD HL,SP+e8 writes H, L and the flags, moves PC past its bytes, and does nothing else (R145). -/
theorem answers_ld_hl_sp_e8 (e : Byte) (s : State) :
    answers (.ld_hl_sp_e8 e) s
      { s with
        pc := next (.ld_hl_sp_e8 e) s
        regs.h := hiByte (addSigned s.sp e).1
        regs.l := loByte (addSigned s.sp e).1
        flags := (addSigned s.sp e).2 } := rfl

/-- Settles O33: both leave `addSigned`, whose sum is the one in integers. -/
theorem signedOffsetFromSP : Obligations.SignedOffsetFromSP := by
  refine fun e => ⟨codedAs_of_always rfl rfl, codedAs_of_always rfl rfl, fun s => ?_⟩
  have hsp := answers_add_sp_e8 e s
  have hhl := answers_ld_hl_sp_e8 e s
  rw [addSigned, add_sext8] at hsp hhl
  exact ⟨hsp, hhl⟩

end Sys2Proof.Machine
end

section
/-!
SUPPORT and the settling of O34 and O35: the coding of a CB instruction, and the rotates and shifts of
a byte as arithmetic, each of whose results is two fields of bits joined (42_rotate_shift.md R150-R162;
70_reset_and_hazards.md R285).
-/
namespace Sys2Proof.Machine

open Sys2Proof.Spec

/-- A CB instruction costs in every state what the CB table says of its second byte (R103, R285). -/
theorem codedAs_of_cb {i : Instr} {cb : Byte} (he : encode i = [cbPrefix, cb]) :
    codedAs i [0xCB, cb] (cbCost cb) :=
  ⟨he, fun s => by rw [cycles, he]; rfl⟩

/-- The first quarter of the CB table: the rotate or shift of field y, of operand z (R97, R100). -/
theorem codedAs_rot (y z : Fin 8) :
    codedAs (Form.rot (rotOfCode y) (operand8OfCode z))
      [0xCB, BitVec.ofNat 8 (8 * y.val + z.val)] (if z = 6 then 16 else 8) := by
  have hcost : ∀ y z : Fin 8,
      cbCost (BitVec.ofNat 8 (8 * y.val + z.val)) = if z = 6 then 16 else 8 := by decide
  have hop : opcodeOf 0 y z = BitVec.ofNat 8 (8 * y.val + z.val) := by simp [opcodeOf]
  rw [← hcost y z]
  exact codedAs_of_cb (hop ▸ encode_rot y z)

theorem encode_rot_length (op : RotOp) (o : Operand8) : (encode (Form.rot op o)).length = 2 := by
  rcases o with r | _
  · cases op <;> cases r <;> rfl
  · cases op <;> rfl

/-! The fields a rotated byte is joined from. -/

theorem lowBit_toNat (b : Bool) : (lowBit b).toNat = b.toNat := by
  cases b <;> rfl

theorem highBit_toNat (b : Bool) : (highBit b).toNat = 2 ^ 7 * b.toNat := by
  cases b <;> rfl

theorem getLsbD_zero_toNat (v : Byte) : (v.getLsbD 0).toNat = v.toNat % 2 := by
  rw [BitVec.getLsbD, Nat.toNat_testBit, pow_zero, Nat.div_one]

theorem getLsbD_seven_toNat (v : Byte) : (v.getLsbD 7).toNat = v.toNat / 128 := by
  rw [BitVec.getLsbD, Nat.toNat_testBit]
  omega

/-- Shifted left by `k`, the low bits of a byte are a multiple of `2 ^ k`. -/
theorem shiftLeft_toNat_eq_mul (v : Byte) {k : Nat} (hk : k ≤ 8) :
    (v <<< k).toNat = 2 ^ k * (v.toNat % 2 ^ (8 - k)) := by
  rw [BitVec.toNat_shiftLeft, Nat.shiftLeft_eq, mul_comm, ← Nat.mul_mod_mul_left, ← pow_add,
    Nat.add_sub_cancel' hk]

/-- Shifted right by `k`, the high bits of a byte are their quotient. -/
theorem ushiftRight_toNat_eq_div (v : Byte) (k : Nat) : (v >>> k).toNat = v.toNat / 2 ^ k := by
  rw [BitVec.toNat_ushiftRight, Nat.shiftRight_eq_div_pow]

/-- Left by one with `b` shifted in at the bottom (R155, R157). -/
theorem shiftLeft_or_lowBit_toNat (v : Byte) (b : Bool) :
    ((v <<< 1) ||| lowBit b).toNat = (2 * v.toNat + b.toNat) % 256 := by
  have hb := b.toNat_lt
  rw [BitVec.toNat_or, shiftLeft_toNat_eq_mul v (by decide), lowBit_toNat,
    ← Nat.two_pow_add_eq_or_of_lt hb]
  omega

/-- Right by one with `b` shifted in at the top (R156, R158). -/
theorem ushiftRight_or_highBit_toNat (v : Byte) (b : Bool) :
    ((v >>> 1) ||| highBit b).toNat = v.toNat / 2 + 128 * b.toNat := by
  have hv : v.toNat / 2 ^ 1 < 2 ^ 7 := by omega
  rw [BitVec.toNat_or, ushiftRight_toNat_eq_div, highBit_toNat, Nat.or_comm,
    ← Nat.two_pow_add_eq_or_of_lt hv]
  omega

/-- The two nibbles exchanged (R161). -/
theorem shiftLeft_or_ushiftRight_toNat (v : Byte) :
    ((v <<< 4) ||| (v >>> 4)).toNat = 16 * (v.toNat % 16) + v.toNat / 16 := by
  have hv : v.toNat / 2 ^ 4 < 2 ^ 4 := by omega
  rw [BitVec.toNat_or, shiftLeft_toNat_eq_mul v (by decide), ushiftRight_toNat_eq_div,
    ← Nat.two_pow_add_eq_or_of_lt hv]
  rfl

/-- Bit 7 kept in place is bit 7 shifted in at the top, which SRA does (R160). -/
theorem and_0x80_eq_highBit (v : Byte) : v &&& 0x80 = highBit (v.getLsbD 7) := by
  revert v
  decide

/-! Rotates and shifts as arithmetic. -/

/-- The result of a rotate or shift (R155-R162). -/
theorem rotate_fst_toNat (op : RotOp) (cin : Bool) (v : Byte) :
    (rotate op cin v).1.toNat = (rotated op cin.toNat v.toNat).1 := by
  cases op with
  | rlc =>
    rw [rotate, rotated, ← getLsbD_seven_toNat]
    exact shiftLeft_or_lowBit_toNat v _
  | rrc =>
    rw [rotate, rotated, ← getLsbD_zero_toNat]
    exact ushiftRight_or_highBit_toNat v _
  | rl => exact shiftLeft_or_lowBit_toNat v cin
  | rr => exact ushiftRight_or_highBit_toNat v cin
  | sla =>
    rw [rotate, rotated, shiftLeft_toNat_eq_mul v (by decide)]
    omega
  | sra =>
    rw [rotate, rotated, and_0x80_eq_highBit, ← getLsbD_seven_toNat]
    exact ushiftRight_or_highBit_toNat v _
  | swap => exact shiftLeft_or_ushiftRight_toNat v
  | srl => exact ushiftRight_toNat_eq_div v 1

/-- The bit a rotate or shift moves off (R155-R162). -/
theorem rotate_snd_toNat (op : RotOp) (cin : Bool) (v : Byte) :
    (rotate op cin v).2.toNat = (rotated op cin.toNat v.toNat).2 := by
  cases op with
  | rlc | rl | sla => exact getLsbD_seven_toNat v
  | rrc | rr | sra | srl => exact getLsbD_zero_toNat v
  | swap => rfl

theorem rotate_eq (op : RotOp) (cin : Bool) (v : Byte) :
    rotate op cin v =
      (BitVec.ofNat 8 (rotated op cin.toNat v.toNat).1,
        decide ((rotated op cin.toNat v.toNat).2 = 1)) := by
  rw [← rotate_fst_toNat, ← rotate_snd_toNat, BitVec.ofNat_toNat, BitVec.setWidth_eq]
  simp

/-- A CB rotate or shift, with its zero flag read off the result (R150). -/
theorem rotateCB_eq (op : RotOp) (f : Flags) (v : Byte) :
    rotateCB op f v =
      (BitVec.ofNat 8 (rotated op f.c.toNat v.toNat).1,
        { z := decide ((rotated op f.c.toNat v.toNat).1 = 0)
          n := false
          h := false
          c := decide ((rotated op f.c.toNat v.toNat).2 = 1) }) := by
  simp only [rotateCB, beq_zero_eq, rotate_fst_toNat]
  rw [rotate_eq]

/-- An instruction that is an unprefixed rotate writes A and the flags, moves PC past its byte, and
does nothing else (R151-R154). -/
theorem answers_rotateA {i : Instr} {op : RotOp} (he : ∀ s, exec i s = rotateAOn op s)
    (hl : (encode i).length = 1) (s : State) :
    let r := rotated op (if s.flags.c then 1 else 0) s.regs.a.toNat
    answers i s
      { s with
        pc := next i s
        regs.a := BitVec.ofNat 8 r.1
        flags := { z := false, n := false, h := false, c := decide (r.2 = 1) } } := by
  unfold answers next
  rw [he, hl, rotateAOn, rotateA, ← bool_toNat_eq_ite]
  simp only [rotate_eq]
  rfl

/-- A CB rotate or shift is one write of its operand (R150). -/
theorem answers_rot (op : RotOp) (o : Operand8) (s : State) :
    answers (Form.rot op o) s
      (afterWrite (Form.rot op o) s o (rotateCB op s.flags (s.readOp o)).1
        (rotateCB op s.flags (s.readOp o)).2) := by
  unfold answers afterWrite
  rw [exec_rot, setPc_next (encode_rot_length op o), rotateOn, advance_readOp]
  rfl

/-- Settles O34: each of the four is an unprefixed rotate of one byte. -/
theorem rotateAClearsZero : Obligations.RotateAClearsZero := by
  intro q hq
  fin_cases hq <;> exact ⟨codedAs_of_always rfl rfl, answers_rotateA (fun _ => rfl) rfl⟩

/-- Settles O35: the operand is written once, with the result whose arithmetic gives Z and C. -/
theorem rotateSetsZeroAndCarry : Obligations.RotateSetsZeroAndCarry := by
  refine ⟨codedAs_rot, fun op o s => ?_⟩
  have h := answers_rot op o s
  rw [rotateCB_eq, bool_toNat_eq_ite] at h
  exact ⟨_, h, storesOnlyOperand_afterWrite .., rfl⟩

end Sys2Proof.Machine
end

section
/-!
SUPPORT and the settling of O36 and O37: the coding of the CB table's other three quarters, BIT as a
change of the flags alone, and RES and SET as one write of the operand with one bit changed
(43_bit.md R170-R172; 70_reset_and_hazards.md R285).
-/
namespace Sys2Proof.Machine

open Sys2Proof.Spec

/-! Coding, length and cost. -/

/-- The CB table by its fields: 8 cycles, but at HL 12 in BIT's quarter and 16 elsewhere (R285). -/
theorem cbCost_opcodeOf (x : Fin 4) (y z : Fin 8) :
    cbCost (opcodeOf x.val y z) = if z = 6 then if x = 1 then 12 else 16 else 8 := by
  revert x y z
  decide

/-- An instruction at fields x, y and z of the CB table costs what the table says of x and z (R100,
R285). -/
theorem codedAs_of_cbFields {i : Instr} {x : Fin 4} {y z : Fin 8}
    (he : encode i = [cbPrefix, opcodeOf x.val y z]) :
    codedAs i [0xCB, opcodeOf x.val y z] (if z = 6 then if x = 1 then 12 else 16 else 8) :=
  cbCost_opcodeOf x y z ▸ codedAs_of_cb he

/-- Every operand has a code (R93). -/
theorem exists_operand8OfCode_eq (o : Operand8) : ∃ z, operand8OfCode z = o := by
  rcases o with r | _
  · cases r with
    | b => exact ⟨0, rfl⟩
    | c => exact ⟨1, rfl⟩
    | d => exact ⟨2, rfl⟩
    | e => exact ⟨3, rfl⟩
    | h => exact ⟨4, rfl⟩
    | l => exact ⟨5, rfl⟩
    | a => exact ⟨7, rfl⟩
  · exact ⟨6, rfl⟩

theorem encode_bit_length (b : Fin 8) (o : Operand8) : (encode (Form.bit b o)).length = 2 := by
  obtain ⟨z, rfl⟩ := exists_operand8OfCode_eq o
  rw [encode_bit]
  rfl

theorem encode_res_length (b : Fin 8) (o : Operand8) : (encode (Form.res b o)).length = 2 := by
  obtain ⟨z, rfl⟩ := exists_operand8OfCode_eq o
  rw [encode_res]
  rfl

theorem encode_set_length (b : Fin 8) (o : Operand8) : (encode (Form.set b o)).length = 2 := by
  obtain ⟨z, rfl⟩ := exists_operand8OfCode_eq o
  rw [encode_set]
  rfl

/-! The tested bit and the changed bit. -/

/-- The complement of a bit, as arithmetic (R170). -/
theorem not_getLsbD_eq (v : Byte) (k : Nat) :
    (!v.getLsbD k) = decide (v.toNat / 2 ^ k % 2 = 0) := by
  rw [BitVec.getLsbD, Nat.testBit_eq_decide_div_mod_eq, ← decide_not]
  exact decide_eq_decide.mpr Nat.mod_two_not_eq_one

/-- The mask of bit `b` has that bit and no other. -/
theorem getLsbD_twoPow_fin (b j : Fin 8) :
    (BitVec.twoPow 8 b.val).getLsbD j.val = decide (j = b) := by
  simp [Fin.ext_iff, eq_comm]

/-- RES clears bit `b` and keeps every other one (R171). -/
theorem getLsbD_resBit (b j : Fin 8) (v : Byte) :
    (resBit b v).getLsbD j.val = (!decide (j = b) && v.getLsbD j.val) := by
  rw [resBit, BitVec.getLsbD_and, BitVec.getLsbD_not, getLsbD_twoPow_fin, decide_eq_true j.isLt,
    Bool.true_and, Bool.and_comm]

/-- SET sets bit `b` and keeps every other one (R172). -/
theorem getLsbD_setBit (b j : Fin 8) (v : Byte) :
    (setBit b v).getLsbD j.val = (decide (j = b) || v.getLsbD j.val) := by
  rw [setBit, BitVec.getLsbD_or, getLsbD_twoPow_fin, Bool.or_comm]

/-! What the three do. -/

/-- BIT writes the flags, moves PC past its bytes, and does nothing else (R170). -/
theorem answers_bit (b : Fin 8) (o : Operand8) (s : State) :
    answers (Form.bit b o) s
      { s with pc := next (Form.bit b o) s, flags := bitFlags s.flags b (s.readOp o) } := by
  unfold answers next
  rw [exec_bit, encode_bit_length, bitOn, advance_readOp]
  rfl

@[simp] theorem writeOp_flags (s : State) (o : Operand8) (v : Byte) :
    (s.writeOp o v).flags = s.flags := by
  cases o with
  | reg r => exact setReg_flags s r v
  | memHL => exact busWrite_flags s s.hl v

/-- An operand written with the flags left alone is one written with the flags that were there. -/
theorem afterWrite_flags_self (i : Instr) (s : State) (o : Operand8) (v : Byte) :
    afterWrite i s o v s.flags = ({ s with pc := next i s } : State).writeOp o v :=
  congrArg (State.setFlags _) (writeOp_flags { s with pc := next i s } o v).symm

/-- RES is one write of its operand, the flags left alone (R171). -/
theorem answers_res (b : Fin 8) (o : Operand8) (s : State) :
    answers (Form.res b o) s
      (afterWrite (Form.res b o) s o (resBit b (s.readOp o)) s.flags) := by
  unfold answers
  rw [afterWrite_flags_self, exec_res, setPc_next (encode_res_length b o), resOn, advance_readOp]

/-- SET is one write of its operand, the flags left alone (R172). -/
theorem answers_set (b : Fin 8) (o : Operand8) (s : State) :
    answers (Form.set b o) s
      (afterWrite (Form.set b o) s o (setBit b (s.readOp o)) s.flags) := by
  unfold answers
  rw [afterWrite_flags_self, exec_set, setPc_next (encode_set_length b o), setOn, advance_readOp]

/-- Settles O36: BIT answers its flags, whose Z is the complement of the bit as arithmetic. -/
theorem bitTestsComplement : Obligations.BitTestsComplement := by
  refine ⟨fun b z => codedAs_of_cbFields (x := 1) (encode_bit b z), fun b o s => ?_⟩
  rw [← not_getLsbD_eq]
  exact answers_bit b o s

/-- Settles O37: the operand is written once, with a byte that differs in one bit at most. -/
theorem resAndSetChangeOneBit : Obligations.ResAndSetChangeOneBit :=
  ⟨fun b z => ⟨codedAs_of_cbFields (x := 2) (encode_res b z),
      codedAs_of_cbFields (x := 3) (encode_set b z)⟩,
    fun b o s =>
      ⟨⟨_, _, answers_res b o s, storesOnlyOperand_afterWrite .., rfl,
          fun j => getLsbD_resBit b j _⟩,
        _, _, answers_set b o s, storesOnlyOperand_afterWrite .., rfl,
          fun j => getLsbD_setBit b j _⟩⟩

end Sys2Proof.Machine
end

section
/-!
SUPPORT and the settling of O38 and O39: the loads of a register, each one write of that register,
and what the readers and writers of the operand codes name (30_encoding.md R93, R94, R99;
44_load_stack.md R180-R182, R185, R187, R188, R191, R193, R195).
-/
namespace Sys2Proof.Machine

open Sys2Proof.Spec

/-- The bytes of an instruction tell its length, and so the `next` that PC is set to (R11). -/
theorem setPc_next_of_codedAs {i : Instr} {bytes : List Byte} {n : Nat} (h : codedAs i bytes n)
    (s : State) : s.setPc (next i s) = s.advance bytes.length :=
  setPc_next (congrArg List.length h.1) s

/-! Coding, length and cost. -/

/-- Opcodes 0x40-0x7F between registers (R99, R285). -/
theorem codedAs_ldRegReg (dst src : Reg8) :
    codedAs (Form.ldRegReg dst src) [BitVec.ofNat 8 (0x40 + 8 * regCode dst + regCode src)] 4 := by
  refine codedAs_of_always ?_ ?_ <;> cases dst <;> cases src <;> rfl

/-- Column 6 of 0x00-0x3F: LD of an immediate to each register code (R99, R285). -/
theorem codedAs_ldImm_reg (dst : Reg8) (n : Byte) :
    codedAs (Form.ldImm (.reg dst) n) [BitVec.ofNat 8 (0x06 + 8 * regCode dst), n] 8 := by
  refine codedAs_of_always ?_ ?_ <;> cases dst <;> rfl

/-- Column 6 of 0x40-0x7F: LD of the byte at HL to each register code (R99, R285). -/
theorem codedAs_ldRegMem (dst : Reg8) :
    codedAs (Form.ldRegMem dst) [BitVec.ofNat 8 (0x46 + 8 * regCode dst)] 8 := by
  refine codedAs_of_always ?_ ?_ <;> cases dst <;> rfl

/-! Registers and operands. -/

theorem reg_setReg (s : State) (r q : Reg8) (v : Byte) :
    (s.setReg r v).reg q = if q = r then v else s.reg q := by
  split_ifs with h
  · rw [h, reg_setReg_same]
  · rw [reg_setReg_other _ _ h]

/-- Writing a register changes the registers, and nothing else. -/
theorem setReg_eq (s : State) (r : Reg8) (v : Byte) :
    s.setReg r v = { s with regs := (s.setReg r v).regs } := by
  cases r <;> rfl

@[simp] theorem setPc_reg (s : State) (w : Word) (r : Reg8) : (s.setPc w).reg r = s.reg r := by
  cases r <;> rfl

/-- A pair as arithmetic on its two registers (R21). -/
theorem catBytes_toNat_eq (h l : Byte) : (catBytes h l).toNat = 256 * h.toNat + l.toNat := by
  rw [catBytes_toNat, mul_comm]

theorem operandsNameFields_holds (s : State) : operandsNameFields s :=
  ⟨⟨rfl, rfl, rfl, rfl, rfl, rfl, rfl⟩, fun _ => rfl, rfl, fun _ => rfl, fun _ => rfl,
    fun _ => ⟨rfl, rfl, rfl, rfl, rfl, rfl, rfl, rfl⟩,
    catBytes_toNat_eq .., catBytes_toNat_eq .., catBytes_toNat_eq .., rfl, rfl, rfl, rfl⟩

/-! What the loads do. -/

/-- The state after an instruction that writes one register. -/
def afterRegWrite (i : Instr) (s : State) (r : Reg8) (v : Byte) : State :=
  (s.setPc (next i s)).setReg r v

/-- An instruction that writes one register leaves the others, and all else but PC. -/
theorem loads_of_answers {i : Instr} {s : State} {r : Reg8} {v : Byte}
    (h : answers i s (afterRegWrite i s r v)) :
    ∃ t, answers i s t ∧ (∀ q, t.reg q = if q = r then v else s.reg q) ∧
      t = { s with pc := next i s, regs := t.regs } :=
  ⟨_, h, fun q => by rw [afterRegWrite, reg_setReg, setPc_reg], setReg_eq ..⟩

theorem answers_ldRegReg (dst src : Reg8) (s : State) :
    answers (Form.ldRegReg dst src) s
      (afterRegWrite (Form.ldRegReg dst src) s dst (s.reg src)) := by
  unfold answers afterRegWrite
  rw [exec_ldRegReg, setPc_next_of_codedAs (codedAs_ldRegReg dst src), loadRegReg, advance_reg]
  rfl

theorem answers_ldImm_reg (dst : Reg8) (n : Byte) (s : State) :
    answers (Form.ldImm (.reg dst) n) s (afterRegWrite (Form.ldImm (.reg dst) n) s dst n) := by
  unfold answers afterRegWrite
  rw [exec_ldImm, setPc_next_of_codedAs (codedAs_ldImm_reg dst n), loadImm]
  rfl

/-- The byte is read at HL as it was, also where H or L is loaded (R182). -/
theorem answers_ldRegMem (dst : Reg8) (s : State) :
    answers (Form.ldRegMem dst) s
      (afterRegWrite (Form.ldRegMem dst) s dst (s.busRead s.hl)) := by
  unfold answers afterRegWrite
  rw [exec_ldRegMem, setPc_next_of_codedAs (codedAs_ldRegMem dst), loadRegMem]
  rfl

/-- Settles O38: each of the three loads is one write of its register. -/
theorem loadRegister : Obligations.LoadRegister := fun dst src n =>
  ⟨codedAs_ldRegReg dst src, codedAs_ldImm_reg dst n, codedAs_ldRegMem dst, rfl, fun s =>
    ⟨operandsNameFields_holds s, loads_of_answers (answers_ldRegReg dst src s),
      loads_of_answers (answers_ldImm_reg dst n s), loads_of_answers (answers_ldRegMem dst s)⟩⟩

/-! The addresses of the loads and stores of A. -/

/-- HL stepped up (R187, R189). -/
theorem word_add_one (w : Word) : w + 1 = BitVec.ofNat 16 (w.toNat + 1) := by
  simp [BitVec.ofNat_add]

/-- HL stepped down (R188, R190). -/
theorem word_sub_one (w : Word) : w - 1 = BitVec.ofInt 16 (w.toNat - 1) := by
  simp [ofInt_sub]

/-- An address of the high page as a sum of numbers (R98). -/
theorem highPage_eq (n : Byte) : highPage n = BitVec.ofNat 16 (0xFF00 + n.toNat) := by
  simp [highPage, BitVec.ofNat_add]

/-- A load of A through a pair reads at the pair as it was and steps HL in two of the forms (R185,
R187, R188). -/
theorem answers_ldAMem (p : PairMem) (s : State) :
    answers (Form.ldAMem p) s
      (((s.setPc (next (Form.ldAMem p) s)).setA (s.busRead (s.memAddr p))).memStep p) := by
  cases p <;> rfl

/-- Settles O39: each load is one write of A, at an address that is a sum of numbers. -/
theorem loadAccumulator : Obligations.LoadAccumulator := by
  refine ⟨⟨codedAs_of_always rfl rfl, codedAs_of_always rfl rfl, codedAs_of_always rfl rfl,
    codedAs_of_always rfl rfl, codedAs_of_always rfl rfl, fun _ => codedAs_of_always rfl rfl,
    fun _ => codedAs_of_always rfl rfl⟩, fun s => ?_⟩
  simp only [← word_add_one, ← word_sub_one, ← highPage_eq]
  exact ⟨answers_ldAMem .bc s, answers_ldAMem .de s, answers_ldAMem .hlInc s,
    answers_ldAMem .hlDec s, fun _ => rfl, fun _ => rfl, rfl⟩

end Sys2Proof.Machine
end

section
/-!
SUPPORT and the settling of O40, O41 and O42: the stores, each a bus write after PC is set, and the
16-bit loads (44_load_stack.md R183, R184, R186, R189, R190, R192, R194, R196-R199).
-/
namespace Sys2Proof.Machine

open Sys2Proof.Spec

/-! Stores of a byte. -/

/-- A bus write after PC is set stores at its address alone. -/
theorem storesOnlyAt_busWrite (s : State) (w addr : Word) (v : Byte) :
    storesOnlyAt s ((s.setPc w).busWrite addr v) addr :=
  fun _ h => readCell_busWrite_other (s.setPc w) v h

/-- An instruction that is one bus write stores at its address alone. -/
theorem stores_of_answers {i : Instr} {s : State} {addr : Word} {v : Byte}
    (h : answers i s ((s.setPc (next i s)).busWrite addr v)) :
    ∃ t, answers i s t ∧ t = ({ s with pc := next i s } : State).busWrite addr v ∧
      storesOnlyAt s t addr :=
  ⟨_, h, rfl, storesOnlyAt_busWrite _ _ _ _⟩

/-- So does one that then steps HL, which holds no storage (R189, R190). -/
theorem storesStepping_of_answers {i : Instr} {s : State} {hl : Word}
    (h : answers i s (((s.setPc (next i s)).busWrite s.hl s.regs.a).setHL hl)) :
    ∃ t, answers i s t ∧
      t = { (({ s with pc := next i s } : State).busWrite s.hl s.regs.a) with
        regs.h := hiByte hl, regs.l := loByte hl } ∧
      storesOnlyAt s t s.hl :=
  ⟨_, h, rfl, fun cell hcell =>
    (readCell_congr rfl rfl rfl rfl rfl rfl cell).trans (storesOnlyAt_busWrite s _ _ _ cell hcell)⟩

/-- Row 0x70-0x77 of the opcode map, but for HALT's slot (R99, R285). -/
theorem codedAs_ldMemReg (r : Reg8) :
    codedAs (Form.ldMemReg r) [BitVec.ofNat 8 (0x70 + regCode r)] 8 := by
  refine codedAs_of_always ?_ ?_ <;> cases r <;> rfl

/-- The byte stored is the register's as it was, H and L among them (R183). -/
theorem answers_ldMemReg (r : Reg8) (s : State) :
    answers (Form.ldMemReg r) s
      ((s.setPc (next (Form.ldMemReg r) s)).busWrite s.hl (s.reg r)) := by
  unfold answers
  rw [exec_ldMemReg, setPc_next_of_codedAs (codedAs_ldMemReg r), loadMemReg, advance_reg]
  rfl

/-- Settles O40: each form is one bus write at HL. -/
theorem storeAtHL : Obligations.StoreAtHL :=
  ⟨codedAs_ldMemReg, fun _ => codedAs_of_always rfl rfl, fun s =>
    ⟨fun r => stores_of_answers (answers_ldMemReg r s), fun _ => stores_of_answers rfl⟩⟩

/-- A store of A through a pair is a bus write at the pair, which steps HL after it in two of the
forms (R186, R189, R190). -/
theorem answers_ldMemA (p : PairMem) (s : State) :
    answers (Form.ldMemA p) s
      (((s.setPc (next (Form.ldMemA p) s)).busWrite (s.memAddr p) s.regs.a).memStep p) := by
  cases p <;> rfl

/-- The pair that a store of A steps is the one it stored at: bus writes leave HL. -/
theorem answers_ldMemA_stepping (s : State) :
    answers .ld_mHLi_a s
      (((s.setPc (next .ld_mHLi_a s)).busWrite s.hl s.regs.a).setHL (s.hl + 1)) ∧
    answers .ld_mHLd_a s
      (((s.setPc (next .ld_mHLd_a s)).busWrite s.hl s.regs.a).setHL (s.hl - 1)) := by
  have hhl (w : Word) : ((s.setPc w).busWrite s.hl s.regs.a).hl = s.hl := busWrite_hl (s.setPc w) ..
  have hi := answers_ldMemA .hlInc s
  have hd := answers_ldMemA .hlDec s
  simp only [State.memStep, State.memAddr, hhl] at hi hd
  exact ⟨hi, hd⟩

/-- Settles O41: each store is one bus write of A, at an address that is a sum of numbers. -/
theorem storeAccumulator : Obligations.StoreAccumulator := by
  refine ⟨⟨codedAs_of_always rfl rfl, codedAs_of_always rfl rfl, codedAs_of_always rfl rfl,
    codedAs_of_always rfl rfl, codedAs_of_always rfl rfl, fun _ => codedAs_of_always rfl rfl,
    fun _ => codedAs_of_always rfl rfl⟩, fun s => ?_⟩
  obtain ⟨hup, hdown⟩ := answers_ldMemA_stepping s
  simp only [← word_add_one, ← word_sub_one, ← highPage_eq]
  exact ⟨stores_of_answers (answers_ldMemA .bc s), stores_of_answers (answers_ldMemA .de s),
    storesStepping_of_answers hup, storesStepping_of_answers hdown,
    fun _ => stores_of_answers rfl, fun _ => stores_of_answers rfl, stores_of_answers rfl⟩

/-! 16-bit loads. -/

/-- Column 1 of 0x00-0x3F: LD of an immediate to each pair code (R99, R285). -/
theorem codedAs_ldPairImm (p : Pair) (n : Word) :
    codedAs (Form.ldPairImm p n) [BitVec.ofNat 8 (0x01 + 16 * pairCode p), loByte n, hiByte n]
      12 := by
  refine codedAs_of_always ?_ ?_ <;> cases p <;> rfl

/-- LD rr,n16 is one write of its pair (R197). -/
theorem answers_ldPairImm (p : Pair) (n : Word) (s : State) :
    answers (Form.ldPairImm p n) s (afterPairWrite (Form.ldPairImm p n) s p n) := by
  unfold answers afterPairWrite
  rw [exec_ldPairImm, setPc_next_of_codedAs (codedAs_ldPairImm p n)]
  rfl

/-- LD (n16),SP is two bus writes, the low byte's at the lower address (R198, D6). -/
theorem answers_ld_mN16_sp (n : Word) (s : State) :
    answers (.ld_mN16_sp n) s
      (((s.setPc (next (.ld_mN16_sp n) s)).busWrite n (loByte s.sp)).busWrite (n + 1)
        (hiByte s.sp)) := rfl

/-- Settles O42: one write of a pair, two bus writes at neighbouring addresses, one write of SP. -/
theorem loadWord : Obligations.LoadWord := fun p n =>
  ⟨codedAs_ldPairImm p n, codedAs_of_always rfl rfl, codedAs_of_always rfl rfl, fun s =>
    ⟨⟨_, answers_ldPairImm p n s, fun _ => afterPairWrite_pair .., setPair_eq ..,
        setPair_regs_a ..⟩,
      ⟨_, answers_ld_mN16_sp n s, rfl, fun _ hn hn1 =>
        readCell_busWrite_two (s.setPc _) _ _ (.inl rfl) hn hn1⟩,
      rfl⟩⟩

end Sys2Proof.Machine
end

section
/-!
SUPPORT and the settling of O43, O44 and O45: the bytes that a push stores and a pop takes; and
since neighbouring addresses name different storage, both bytes pushed are there when they are popped
(10_state.md R21, R22; 44_load_stack.md R200, R201).
-/
namespace Sys2Proof.Machine

open Sys2Proof.Spec

/-! Coding, length and cost. -/

/-- Column 5 of 0xC0-0xFF: PUSH of each stack pair code (R94, R99, R285). -/
theorem codedAs_push (p : StackPair) :
    codedAs (Form.push p) [BitVec.ofNat 8 (0xC5 + 16 * stackCode p)] 16 := by
  refine codedAs_of_always ?_ ?_ <;> cases p <;> rfl

/-- Column 1 of 0xC0-0xFF: POP of each stack pair code (R94, R99, R285). -/
theorem codedAs_pop (p : StackPair) :
    codedAs (Form.pop p) [BitVec.ofNat 8 (0xC1 + 16 * stackCode p)] 12 := by
  refine codedAs_of_always ?_ ?_ <;> cases p <;> rfl

/-! A stack pair and its two bytes. -/

/-- The flag byte as a sum of its four bits' values (R22). -/
theorem Flags.toByte_eq (f : Flags) :
    f.toByte =
      BitVec.ofNat 8 (128 * f.z.toNat + 64 * f.n.toNat + 32 * f.h.toNat + 16 * f.c.toNat) := by
  obtain ⟨z, n, h, c⟩ := f
  revert z n h c
  decide

/-- The flags as the bits of a number (R22). -/
theorem Flags.ofByte_eq (v : Byte) :
    Flags.ofByte v =
      { z := decide (v.toNat / 128 % 2 = 1)
        n := decide (v.toNat / 64 % 2 = 1)
        h := decide (v.toNat / 32 % 2 = 1)
        c := decide (v.toNat / 16 % 2 = 1) } := by
  simp only [Flags.ofByte, BitVec.getLsbD, Nat.testBit_eq_decide_div_mod_eq]

/-- A stack pair is its two bytes joined; AF's low byte is the packed flags (R21, R200). -/
theorem stackPair_eq_catBytes (s : State) (p : StackPair) :
    s.stackPair p = catBytes (stackBytes s p).1 (stackBytes s p).2 := by
  cases p with
  | bc | de | hl => rfl
  | af => exact congrArg (catBytes s.regs.a) (Flags.toByte_eq s.flags)

/-- A pair is written by its two bytes; AF keeps the flags of the low one (R21, R201). -/
theorem setStackPair_catBytes (s : State) (p : StackPair) (hi lo : Byte) :
    s.setStackPair p (catBytes hi lo) = poppedInto s p hi lo := by
  cases p <;>
    simp only [State.setStackPair, State.setHL, hiByte_catBytes, loByte_catBytes, poppedInto,
      Flags.ofByte_eq]

theorem stackPair_congr {s t : State} (hr : t.regs = s.regs) (hf : t.flags = s.flags)
    (p : StackPair) : t.stackPair p = s.stackPair p := by
  cases p <;>
    simp only [State.stackPair, State.bc, State.de, State.hl, State.af, State.f, hr, hf]

/-- A pair written with what it held changes nothing: the low nibble AF loses is 0 (R21). -/
theorem setStackPair_self (s : State) (p : StackPair) : s.setStackPair p (s.stackPair p) = s := by
  cases p <;>
    simp only [State.setStackPair, State.setHL, State.stackPair, State.bc, State.de, State.hl,
      State.af, State.f, hiByte_catBytes, loByte_catBytes, Flags.ofByte_toByte]

/-! PUSH and POP. -/

@[simp] theorem popped_regs (s : State) : s.popped.regs = s.regs := rfl

@[simp] theorem popped_flags (s : State) : s.popped.flags = s.flags := rfl

/-- PUSH stores its pair, as it was before PC moved (R200). -/
theorem answers_push (p : StackPair) (s : State) :
    answers (Form.push p) s ((s.setPc (next (Form.push p) s)).push (s.stackPair p)) := by
  unfold answers
  rw [exec_push, setPc_next_of_codedAs (codedAs_push p), pushOn,
    stackPair_congr (advance_regs ..) (advance_flags ..)]
  rfl

/-- POP writes its pair with the word at SP and moves SP past it (R201). -/
theorem answers_pop (p : StackPair) (s : State) :
    answers (Form.pop p) s
      ((s.setPc (next (Form.pop p) s)).popped.setStackPair p s.popValue) := by
  unfold answers
  rw [exec_pop, setPc_next_of_codedAs (codedAs_pop p), popOn]
  rfl

/-- A push of two bytes stores the high one first, at the higher address (R200). -/
theorem push_catBytes (s : State) (hi lo : Byte) : s.push (catBytes hi lo) = pushed s hi lo := by
  rw [push_eq, hiByte_catBytes, loByte_catBytes]
  rfl

/-- Settles O43: the pair is pushed as its two bytes, and a push stores to two cells. -/
theorem pushStoresHighThenLow : Obligations.PushStoresHighThenLow := by
  refine fun p => ⟨codedAs_push p, fun s => ⟨_, answers_push p s, ?_, fun _ hhi hlo => ?_⟩⟩
  · rw [stackPair_eq_catBytes]
    exact push_catBytes ..
  · exact readCell_push_other (s.setPc _) _ hhi hlo

/-- Settles O44: the popped word is the two bytes read, and writing it writes them. -/
theorem popLoadsLowThenHigh : Obligations.PopLoadsLowThenHigh := by
  refine fun p => ⟨codedAs_pop p, fun s => ?_⟩
  have h := answers_pop p s
  rwa [State.popValue, setStackPair_catBytes] at h

/-! What is pushed is popped. -/

/-- Where a byte that is written reads back: no bank command, not DIV, not disabled cartridge RAM
(R54, R58, R61). -/
def State.readsBack (s : State) (a : Word) : Prop :=
  0x8000 ≤ a.toNat ∧ a ≠ 0xFF04 ∧ s.cellAt a ≠ .openBus

theorem busRead_busWrite_same {s : State} {a : Word} (h : s.readsBack a) (v : Byte) :
    (s.busWrite a v).busRead a = v := by
  obtain ⟨hlow, hdiv, hopen⟩ := h
  refine storeThenLoadReturnsValue s a a v hlow hdiv (fun hlo hhi => ?_) rfl
  by_contra hoff
  exact hopen (cellAt_eq_openBus_iff.mpr ⟨hlo, hhi, Bool.eq_false_of_not_eq_true hoff⟩)

/-- Writing elsewhere above the bank-control range leaves it that an address reads back. -/
theorem readsBack_busWrite {s : State} {a b : Word} (ha : s.readsBack a) (hb : s.readsBack b)
    (v : Byte) : (s.busWrite a v).readsBack b := by
  obtain ⟨hlow, -, -⟩ := ha
  unfold State.readsBack
  rwa [cellAt_busWrite s v (by omega)]

/-- Neighbouring addresses of storage name different cells: neither the banks of cartridge RAM nor
the echo bring them together (R57, R59). -/
theorem cellAt_succ_ne {s : State} {a b : Word} (hlow : 0x8000 ≤ b.toNat)
    (hab : a.toNat = b.toNat + 1) (hb : s.cellAt b ≠ .openBus) : s.cellAt a ≠ s.cellAt b := by
  intro h
  unfold State.cellAt at h hb
  dsimp only at h hb
  rw [hab] at h
  split_ifs at h hb <;>
    simp only [Cell.ram.injEq, Cell.flat.injEq, State.ramIndex, cartRamSize, reduceCtorEq, ne_eq,
      not_true_eq_false] at h hb <;>
    omega

/-- Of two bytes written to neighbouring addresses each reads back (R200, R201). -/
theorem busRead_busWrite_two {s : State} {a b : Word} (hab : a.toNat = b.toNat + 1)
    (ha : s.readsBack a) (hb : s.readsBack b) (v w : Byte) :
    ((s.busWrite a v).busWrite b w).busRead a = v ∧
      ((s.busWrite a v).busWrite b w).busRead b = w := by
  have hb' := readsBack_busWrite ha hb v
  have ⟨hlow, _, hopen⟩ := hb'
  refine ⟨?_, busRead_busWrite_same hb' w⟩
  rw [busRead_busWrite_other _ w (by omega) (cellAt_succ_ne hlow hab hopen)]
  exact busRead_busWrite_same ha v

/-- A push is two bus writes, then SP moved by two. -/
theorem push_eq_setSp (s : State) (v : Word) :
    s.push v =
      ((s.busWrite (s.sp - 1) (hiByte v)).busWrite (s.sp - 2) (loByte v)).setSp (s.sp - 2) := by
  simp only [push_eq, busWrite_setSp]
  rfl

/-- A pushed word is the one at the new SP, when both its bytes read back (R200, R201). -/
theorem popValue_push {s : State} (v : Word) (hhi : s.readsBack (s.sp - 1))
    (hlo : s.readsBack (s.sp - 2)) : (s.push v).popValue = v := by
  have hlow := hhi.1
  have hsp : s.sp - 2 + 1 = s.sp - 1 := by bv_omega
  obtain ⟨h1, h2⟩ := busRead_busWrite_two (by bv_omega) hhi hlo (hiByte v) (loByte v)
  rw [State.popValue, push_sp, hsp, push_eq_setSp, setSp_busRead, setSp_busRead, h1, h2,
    catBytes_hi_lo]

/-- A pop of the pair just pushed moves PC and SP alone: the push left the pair as it was, so that
writing it with the word popped changes nothing. -/
theorem answers_pop_push {s : State} {p : StackPair} {v : Word} (hv : v = s.stackPair p)
    (hhi : s.readsBack (s.sp - 1)) (hlo : s.readsBack (s.sp - 2)) :
    answers (Form.pop p) (s.push v) ((s.push v).setPc (next (Form.pop p) (s.push v))).popped := by
  have hpop := answers_pop p (s.push v)
  have hpair : v = (((s.push v).setPc (next (Form.pop p) (s.push v))).popped).stackPair p :=
    hv.trans (stackPair_congr (by simp) (by simp) p).symm
  rw [popValue_push v hhi hlo] at hpop
  rwa [← setStackPair_self (State.popped _) p, ← hpair]

/-- Settles O45: the pop moves PC and SP alone, SP back up by the two that the push took. -/
theorem pushThenPopRestores : Obligations.PushThenPopRestores := by
  intro p s plain hhi hlo
  have hpop := answers_pop_push (s := s.setPc (next (Form.push p) s))
    (stackPair_congr (s := s.setPc _) rfl rfl p) hhi hlo
  exact ⟨_, _, answers_push p s, hpop, by simp, by simp, by simp⟩

end Sys2Proof.Machine
end

section
/-!
SUPPORT and the settling of O46, O47, O48 and O49: an instruction under a condition, which costs and
does one of two things, and the jumps, calls and returns made of it (45_control.md R210-R221;
70_reset_and_hazards.md R285).
-/
namespace Sys2Proof.Machine

open Sys2Proof.Spec

/-! Instructions under a condition. -/

/-- The condition as the obligations read it off the flags is the model's (R95, R210). -/
theorem taken_eq_holds (f : Flags) (cc : Cond) : taken f cc = holds f cc := by
  cases cc with
  | nz | nc => exact Bool.decide_eq_false
  | z | c => exact Bool.decide_eq_true

/-- `i` is encoded by `bytes` and costs `m` cycles where the condition `cc` holds, `n` where it
fails. -/
def branchCodedAs (i : Instr) (cc : Cond) (bytes : List Byte) (m n : Nat) : Prop :=
  encode i = bytes ∧ ∀ s, cycles i s = if taken s.flags cc then m else n

/-- An instruction whose first byte has two counts in the cost table costs the one its condition
chooses. -/
theorem branchCodedAs_of_branch {i : Instr} {cc : Cond} {op : Byte} {rest : List Byte} {m n : Nat}
    (he : encode i = op :: rest) (hc : primaryCost op = .branch m n) (hcc : condField op = cc) :
    branchCodedAs i cc (op :: rest) m n :=
  ⟨he, fun s => by simp [cycles, costOfBytes, he, hc, hcc, taken_eq_holds]⟩

/-- An instruction that does `body` under a condition does it with PC at `next`; where the condition
fails, PC at `next` is all it does (R210). -/
theorem answers_of_branch {i : Instr} {cc : Cond} {bytes : List Byte} {m n : Nat} {s : State}
    (body : State → State) (hcode : branchCodedAs i cc bytes m n)
    (he : exec i s = .next
      (if holds s.flags cc then body (s.advance bytes.length) else s.advance bytes.length)) :
    answers i s
      (if taken s.flags cc then body (s.setPc (next i s)) else s.setPc (next i s)) := by
  obtain ⟨hbytes, -⟩ := hcode
  have hnext : s.setPc (next i s) = s.advance bytes.length :=
    setPc_next (congrArg List.length hbytes) s
  rw [answers, he, taken_eq_holds, hnext]

/-! Coding, length and cost. -/

/-- Rows 2 and 3 of 0x00-0x3F: JR of each condition code (R95, R99, R285). -/
theorem branchCodedAs_jrCond (cc : Cond) (e : Byte) :
    branchCodedAs (Form.jrCond cc e) cc [BitVec.ofNat 8 (0x20 + 8 * condCode cc), e] 12 8 := by
  refine branchCodedAs_of_branch ?_ ?_ ?_ <;> cases cc <;> rfl

/-- Column 2 of 0xC0-0xDF: JP of each condition code (R95, R99, R285). -/
theorem branchCodedAs_jpCond (cc : Cond) (n : Word) :
    branchCodedAs (Form.jpCond cc n) cc
      [BitVec.ofNat 8 (0xC2 + 8 * condCode cc), loByte n, hiByte n] 16 12 := by
  refine branchCodedAs_of_branch ?_ ?_ ?_ <;> cases cc <;> rfl

/-- Column 4 of 0xC0-0xDF: CALL of each condition code (R95, R99, R285). -/
theorem branchCodedAs_callCond (cc : Cond) (n : Word) :
    branchCodedAs (Form.callCond cc n) cc
      [BitVec.ofNat 8 (0xC4 + 8 * condCode cc), loByte n, hiByte n] 24 12 := by
  refine branchCodedAs_of_branch ?_ ?_ ?_ <;> cases cc <;> rfl

/-- Column 0 of 0xC0-0xDF: RET of each condition code (R95, R99, R285). -/
theorem branchCodedAs_retCond (cc : Cond) :
    branchCodedAs (Form.retCond cc) cc [BitVec.ofNat 8 (0xC0 + 8 * condCode cc)] 20 8 := by
  refine branchCodedAs_of_branch ?_ ?_ ?_ <;> cases cc <;> rfl

/-- Column 7 of 0xC0-0xFF: RST of each vector (R99, R285). -/
theorem codedAs_rst (y : Fin 8) :
    codedAs (Form.rst y) [BitVec.ofNat 8 (0xC7 + 8 * y.val)] 16 := by
  refine codedAs_of_always ?_ ?_ <;> fin_cases y <;> rfl

/-! Jumps. -/

/-- A conditional jump chooses between two values of PC. -/
theorem ite_setPc_setPc (s : State) (b : Bool) (w w' : Word) :
    (if b then (s.setPc w').setPc w else s.setPc w') = s.setPc (if b then w else w') := by
  cases b <;> rfl

theorem answers_jpCond (cc : Cond) (n : Word) (s : State) :
    answers (Form.jpCond cc n) s
      (s.setPc (if taken s.flags cc then n else next (Form.jpCond cc n) s)) := by
  rw [← ite_setPc_setPc]
  exact answers_of_branch (·.setPc n) (branchCodedAs_jpCond cc n) (exec_jpCond cc n s)

theorem answers_jrCond (cc : Cond) (e : Byte) (s : State) :
    answers (Form.jrCond cc e) s
      (s.setPc (if taken s.flags cc then next (Form.jrCond cc e) s + sext8 e
        else next (Form.jrCond cc e) s)) := by
  rw [← ite_setPc_setPc]
  exact answers_of_branch (jumpRelative e) (branchCodedAs_jrCond cc e) (exec_jrCond cc e s)

/-- Settles O46: each jump sets PC alone, a conditional one to one of two values. -/
theorem jumpsSetPc : Obligations.JumpsSetPc := by
  intro cc n
  obtain ⟨hbytes, hcycles⟩ := branchCodedAs_jpCond cc n
  exact ⟨codedAs_of_always rfl rfl, codedAs_of_always rfl rfl, hbytes,
    fun s => ⟨hcycles s, rfl, rfl, answers_jpCond cc n s⟩⟩

/-- Settles O47: each jump sets PC alone, and adding the sign-extended offset is the sum in
integers. -/
theorem relativeJumps : Obligations.RelativeJumps := by
  intro cc e
  obtain ⟨hbytes, hcycles⟩ := branchCodedAs_jrCond cc e
  refine ⟨codedAs_of_always rfl rfl, hbytes, fun s => ?_⟩
  simp only [← add_sext8]
  exact ⟨hcycles s, rfl, answers_jrCond cc e s⟩

/-! Calls. -/

/-- With PC at the return address, a call pushes that address's bytes and sets PC to the target
(R216). -/
theorem doCall_setPc (s : State) (w target : Word) :
    (s.setPc w).doCall target = (pushed s (hiByte w) (loByte w)).setPc target := by
  rw [← push_catBytes, catBytes_hi_lo, State.doCall, setPc_pc, push_setPc]
  rfl

/-- A call stores to the two cells it pushes to, and to no other. -/
theorem storesOnlyAt2_doCall (s : State) (w target : Word) :
    storesOnlyAt2 s ((s.setPc w).doCall target) (s.sp - 1) (s.sp - 2) := fun cell hhi hlo =>
  (readCell_congr rfl rfl rfl rfl rfl rfl cell).trans
    (readCell_push_other (s.setPc w) _ hhi hlo)

/-- An instruction that calls pushes `next`, and reads as before elsewhere. -/
theorem calls_of_answers {i : Instr} {s : State} {target : Word}
    (h : answers i s ((s.setPc (next i s)).doCall target)) :
    ∃ t, answers i s t ∧
      t = { pushed s (hiByte (next i s)) (loByte (next i s)) with pc := target } ∧
      storesOnlyAt2 s t (s.sp - 1) (s.sp - 2) :=
  ⟨_, h, doCall_setPc .., storesOnlyAt2_doCall _ _ _⟩

theorem answers_callCond (cc : Cond) (n : Word) (s : State) :
    answers (Form.callCond cc n) s
      (if taken s.flags cc then (s.setPc (next (Form.callCond cc n) s)).doCall n
        else s.setPc (next (Form.callCond cc n) s)) :=
  answers_of_branch (·.doCall n) (branchCodedAs_callCond cc n) (exec_callCond cc n s)

theorem answers_rst (y : Fin 8) (s : State) :
    answers (Form.rst y) s
      ((s.setPc (next (Form.rst y) s)).doCall (BitVec.ofNat 16 (8 * y.val))) := by
  rw [answers, exec_rst, setPc_next_of_codedAs (codedAs_rst y)]
  rfl

/-- Settles O48: each form is a call with PC at `next`, a conditional one where its condition
holds. -/
theorem callsPushReturnAddress : Obligations.CallsPushReturnAddress := by
  intro cc n y
  obtain ⟨hbytes, hcycles⟩ := branchCodedAs_callCond cc n
  refine ⟨codedAs_of_always rfl rfl, hbytes, codedAs_rst y, fun s =>
    ⟨calls_of_answers rfl, calls_of_answers (answers_rst y s), fun ht => ?_, fun ht => ?_⟩⟩
  all_goals
    have hcall := answers_callCond cc n s
    have hcost := hcycles s
    rw [ht] at hcall hcost
  · exact ⟨calls_of_answers hcall, hcost⟩
  · exact ⟨hcall, hcost⟩

/-! Returns. -/

/-- A return loads PC with the two bytes at SP, as a number, and moves SP past them (R218). -/
theorem doReturn_eq (s : State) :
    s.doReturn =
      { s with
        pc := BitVec.ofNat 16 ((s.busRead (s.sp + 1)).toNat * 256 + (s.busRead s.sp).toNat)
        sp := s.sp + 2 } := by
  rw [← catBytes_toNat, BitVec.ofNat_toNat, BitVec.setWidth_eq]
  rfl

/-- A return taken is the same whatever PC was before it. -/
theorem answers_retCond (cc : Cond) (s : State) :
    answers (Form.retCond cc) s
      (if taken s.flags cc then s.doReturn else s.setPc (next (Form.retCond cc) s)) :=
  answers_of_branch State.doReturn (branchCodedAs_retCond cc) (exec_retCond cc s)

/-- Settles O49: each form is one return, which RETI follows by setting IME. -/
theorem returnsPopAddress : Obligations.ReturnsPopAddress := by
  intro cc
  obtain ⟨hbytes, hcycles⟩ := branchCodedAs_retCond cc
  refine ⟨codedAs_of_always rfl rfl, codedAs_of_always rfl rfl, hbytes, fun s => ?_⟩
  have hret : answers .ret s s.doReturn := rfl
  have hreti : answers .reti s { s.doReturn with irq.ime := true } := rfl
  have hcond := answers_retCond cc s
  have hcost := hcycles s
  rw [doReturn_eq] at hret hreti hcond
  refine ⟨hret, hreti, fun ht => ?_, fun ht => ?_⟩
  all_goals
    rw [ht] at hcond hcost
    exact ⟨hcond, hcost⟩

end Sys2Proof.Machine
end

section
/-!
SUPPORT and the settling of O55 and O56: what the interrupt check answers in each of its three
cases, and that none of them leaves an interrupt that should have been taken (46_system.md R232;
60_exceptions.md R240, R246, R249).
-/
namespace Sys2Proof.Machine

/-- A pending interrupt ends the halted state, whatever IME is (R232). -/
theorem wake_of_pending {s : State} {k : Fin 5} (h : s.pending = some k) :
    s.wake = { s with halted := false } := by
  cases hh : s.halted with
  | false =>
    simp only [State.wake, hh, Bool.false_and, Bool.false_eq_true, if_false]
    rw [← hh]
  | true => simp [State.wake, h, hh]

/-- With nothing pending the step is complete as it stands. -/
theorem interruptCheck_none {s : State} (c : Nat) (h : s.pending = none) :
    interruptCheck c s = (.completed c, s) := by
  simp [interruptCheck, State.wake, h]

/-- With IME 0 a pending interrupt wakes the core and is kept (R232, D19). -/
theorem interruptCheck_wakes {s : State} {k : Fin 5} (c : Nat) (h : s.pending = some k)
    (hime : s.irq.ime = false) :
    interruptCheck c s = (.completed c, { s with halted := false }) := by
  simp [interruptCheck, wake_of_pending h, hime]

/-- With IME 1 a pending interrupt is dispatched at its own cost (R249). -/
theorem interruptCheck_dispatches {s : State} {k : Fin 5} (c : Nat) (h : s.pending = some k)
    (hime : s.irq.ime = true) :
    interruptCheck c s =
      (.completed (c + dispatchCycles), timerAdvance dispatchCycles (s.dispatch k)) := by
  have hpending : ({ s with halted := false } : State).pending = some k := h
  simp only [interruptCheck, wake_of_pending h, hime, hpending, if_true]
  rfl

/-- With IME 0 and the core awake there is nothing to dispatch and nothing to wake. -/
theorem interruptCheck_awake {s : State} (c : Nat) (hime : s.irq.ime = false)
    (hhalted : s.halted = false) : interruptCheck c s = (.completed c, s) := by
  simp [interruptCheck, State.wake, hime, hhalted]

/-- Settles O55: the check answers one of three things, by what is pending and by IME. -/
theorem checkWakesAndDispatches : Obligations.CheckWakesAndDispatches := fun _ c =>
  ⟨interruptCheck_none c, fun _ h => ⟨interruptCheck_wakes c h, interruptCheck_dispatches c h⟩⟩

@[simp] theorem dispatch_ime (s : State) (k : Fin 5) : (s.dispatch k).irq.ime = false := by
  simp [State.dispatch]

@[simp] theorem dispatch_halted (s : State) (k : Fin 5) : (s.dispatch k).halted = false := by
  simp [State.dispatch]

/-- No interrupt is left that should have been taken: with IME set, or halted, nothing is pending. -/
def State.NothingLeft (s : State) : Prop :=
  (s.irq.ime = true → s.pending = none) ∧ (s.halted = true → s.pending = none)

/-- With IME 0 and the core awake, a pending interrupt may stay. -/
theorem nothingLeft_of_awake {s : State} (hime : s.irq.ime = false) (hhalted : s.halted = false) :
    s.NothingLeft := by
  simp [State.NothingLeft, hime, hhalted]

/-- Whatever the state before it, the check leaves nothing: it wakes a core with IME 0, and a
dispatch clears IME and halted. -/
theorem interruptCheck_nothingLeft (c : Nat) (s : State) : (interruptCheck c s).2.NothingLeft := by
  rcases interruptCheck_cases c s with ⟨hp, e⟩ | ⟨k, _, hime, e⟩ | ⟨k, _, _, e⟩ <;> rw [e]
  · exact ⟨fun _ => hp, fun _ => hp⟩
  · exact nothingLeft_of_awake hime rfl
  · exact nothingLeft_of_awake (by simp) (by simp)

/-- Settles O56: a step ends with the check, or with a fault, which clears IME of a core that was
not halted. -/
theorem completedStepLeavesNothingPending : Obligations.CompletedStepLeavesNothingPending := by
  intro s t hr h
  show t.NothingLeft
  rcases step_cases h with
    ⟨hstopped, _⟩ | ⟨_, _, rfl⟩ | ⟨_, hh, _, op, rfl⟩ | ⟨_, _, _, u, _, rfl⟩
  · simp [hr] at hstopped
  · exact interruptCheck_nothingLeft _ _
  · exact nothingLeft_of_awake rfl hh
  · exact interruptCheck_nothingLeft _ _

end Sys2Proof.Machine
end

section
/-!
SUPPORT and the settling of O50, O51 and O8: the system instructions, and the unused opcodes, each
with the one slot it decodes to (46_system.md R230-R237; 30_encoding.md R101; 60_exceptions.md
R241).
-/
namespace Sys2Proof.Machine

open Sys2Proof.Spec

/-- Settles O50: NOP and STOP are their move of PC, and HALT sets halted besides. -/
theorem nopStopHalt : Obligations.NopStopHalt :=
  ⟨codedAs_of_always rfl rfl, codedAs_of_always rfl rfl, fun _ => codedAs_of_always rfl rfl,
    fun _ _ => ⟨rfl, rfl, rfl⟩⟩

/-- Settles O51: DI writes IME and eiDelay, EI eiDelay alone. -/
theorem disableEnableInterrupts : Obligations.DisableEnableInterrupts :=
  ⟨codedAs_of_always rfl rfl, codedAs_of_always rfl rfl, fun _ => ⟨rfl, rfl⟩⟩

/-- Each unused opcode decodes to its slot, whatever follows it (R101). -/
theorem decodeBytes_unused (b1 b2 : Byte) :
    ∀ p ∈ illegalSlots.zip illegalOpcodes, decodeBytes p.2 b1 b2 = p.1 := by
  rw [← illegalOpcodes_decodeBytes b1 b2, ← List.map_prod_right_eq_zip]
  exact List.forall_mem_map.mpr fun _ _ => rfl

/-- Each unused slot takes the fault, its own opcode in the record (R237). -/
theorem exec_illegal (s : State) :
    ∀ p ∈ illegalSlots.zip illegalOpcodes, exec p.1 s = illegalOn p.2 s := by
  simp only [illegalSlots, illegalOpcodes, List.zip_cons_cons, List.zip_nil_right,
    List.forall_mem_cons, List.not_mem_nil, false_implies, implies_true, and_true]
  and_intros <;> rfl

/-- A running core that fetches an unused slot answers the fault record (R240, R242). -/
theorem stepInstruction_faulted {s t : State} (hr : s.running = true) (hh : s.halted = false)
    (hw : wellFormed s.fetched = false) (h : exec s.fetched s = .next t) :
    stepInstruction s =
      .next (.faulted { reason := .illegalOpcode, pc := s.pc, op := s.busRead s.pc }, t) := by
  simp [stepInstruction, hr, hh, hw, h]

/-- Settles O8: the state after the fault is stopped, and the step that fetches the opcode executes
its slot. -/
theorem illegalOpcodeFaults : Obligations.IllegalOpcodeFaults := by
  intro p hmem s t
  have hp : p ∈ illegalSlots.zip illegalOpcodes := hmem
  have hexec : exec p.1 s = .next t := exec_illegal s p hp
  have ht : stepInstruction t = .next (.stopped, t) := stepInstruction_stopped rfl
  refine ⟨hexec, step_eq_next_iff.mpr ⟨_, ht⟩, fun hr hh hop => ?_⟩
  have hfetched : s.fetched = p.1 := by
    rw [State.fetched, hop]
    exact decodeBytes_unused _ _ p hp
  have hslot : p.1 ∈ illegalSlots := (List.of_mem_zip hp).1
  have hw : wellFormed s.fetched = false := (wellFormed_eq_false_iff _).mpr (hfetched ▸ hslot)
  rw [← hop]
  exact stepInstruction_faulted hr hh hw (hfetched ▸ hexec)

end Sys2Proof.Machine
end

section
/-!
SUPPORT and the settling of O7 and O52: a step from the state in which its interrupt check begins,
for a halted tick and for EI and the instruction after it (46_system.md R232, R234;
60_exceptions.md R240).
-/
namespace Sys2Proof.Machine

open Sys2Proof.Spec

/-- What follows an instruction or a halted tick is the check of `beforeCheck` (R240). -/
theorem endOfStep_eq (executed : Bool) (c : Nat) (s : State) :
    endOfStep executed c s = interruptCheck c (beforeCheck executed c s) := by
  cases executed with
  | false => simp [endOfStep, beforeCheck, State.takeExt]
  | true =>
    simp only [endOfStep, if_true, eiTick_eq]
    simp [beforeCheck, State.takeExt]

theorem stepInstruction_halted {s : State} (hr : s.running = true) (hh : s.halted = true) :
    stepInstruction s = .next (interruptCheck haltedCycles (beforeCheck false haltedCycles s)) := by
  simp [stepInstruction, hr, hh, endOfStep_eq]

/-- Settles O7: with nothing pending, the check leaves the state it begins with, in which only the
timer, IF and the draws have changed. -/
theorem haltedTickOnlyTicks : Obligations.HaltedTickOnlyTicks := by
  intro s hr hh
  have hs := stepInstruction_halted hr hh
  refine ⟨hs, fun hp => ⟨beforeCheck false 4 s, ?_, ?_⟩⟩
  · rw [haltedCycles, interruptCheck_none 4 hp] at hs
    exact step_eq_next_iff.mpr ⟨_, hs⟩
  · simp [beforeCheck, hh]

/-- A running core that is not halted and does not fault executes what it fetches and ends with the
check (R240). -/
theorem step_executes {s t : State} (hr : s.running = true) (hh : s.halted = false)
    (hw : wellFormed s.fetched = true) (h : step s = .next t) :
    ∃ v, exec s.fetched s = .next v ∧
      t = (interruptCheck (cycles s.fetched s) (beforeCheck true (cycles s.fetched s) v)).2 := by
  rcases step_cases h with
    ⟨hstopped, _⟩ | ⟨_, hhalted, _⟩ | ⟨_, _, hunused, _⟩ | ⟨_, _, _, v, hv, ht⟩
  · simp [hr] at hstopped
  · simp [hh] at hhalted
  · simp [hw] at hunused
  · exact ⟨v, hv, endOfStep_eq .. ▸ ht⟩

/-- An instruction that is used and is neither DI nor EI leaves the EI delay: RETI sets IME alone. -/
theorem exec_eiDelay {i : Instr} {s v : State} (hw : wellFormed i = true) (hdi : i ≠ .di)
    (hei : i ≠ .ei) (h : exec i s = .next v) : v.irq.eiDelay = s.irq.eiDelay := by
  by_cases hreti : i = .reti
  · subst hreti
    cases h
    rfl
  · obtain ⟨u, hu, _, hdelay, _⟩ := onlyNamedInstructionsWriteIme i s hdi hreti hw
    cases h.symm.trans hu
    exact hdelay hei

/-- Settles O52: EI's own check begins with IME 0, so it does not dispatch; the next instruction
leaves eiDelay at 1, which sets IME before the check. -/
theorem eiTakesEffectAfterNext : Obligations.EiTakesEffectAfterNext := by
  intro s t hr hh h
  refine ⟨fun hfetched hime => ?_, fun hdelay hdi hei hw => ?_⟩
  · obtain ⟨v, hv, ht⟩ := step_executes hr hh (hfetched ▸ rfl) h
    rw [hfetched] at hv
    obtain rfl : ({ s.advance 1 with irq.eiDelay := 2 } : State) = v := Host.Outcome.next.inj hv
    rw [interruptCheck_awake _ (by simp [beforeCheck, hime])
      (by simpa [beforeCheck] using hh)] at ht
    subst ht
    simp [beforeCheck, hime, hh, State.advance]
  · obtain ⟨v, hv, ht⟩ := step_executes hr hh hw h
    have hvdelay : v.irq.eiDelay = 1 := (exec_eiDelay hw hdi hei hv).trans hdelay
    have hime : (beforeCheck true (cycles s.fetched s) v).irq.ime = true := by
      simp [beforeCheck, hvdelay]
    refine ⟨v, hv, hime, by simp [beforeCheck, hvdelay], ?_⟩
    rcases interruptCheck_cases (cycles s.fetched s) (beforeCheck true (cycles s.fetched s) v) with
      ⟨hp, e⟩ | ⟨_, _, h0, _⟩ | ⟨k, hp, _, e⟩
    · exact .inl ⟨hp, ht.trans e⟩
    · simp [hime] at h0
    · exact .inr ⟨k, hp, ht.trans e⟩

end Sys2Proof.Machine
end

section
/-!
SUPPORT and the settling of O54: the pending source is the first one found from bit 0 upward, and
the request that a dispatch clears is a reset bit (60_exceptions.md R245, R248, R249).
-/
namespace Sys2Proof.Machine

open Sys2Proof.Spec

/-- A source both requested and enabled (R245). -/
def State.requests (s : State) (k : Fin 5) : Bool :=
  s.irq.ie.getLsbD k.val && s.irq.ifr.getLsbD k.val

theorem requests_iff {s : State} {k : Fin 5} :
    s.requests k = true ↔
      s.irq.ie.getLsbD k.val = true ∧ s.irq.ifr.getLsbD k.val = true :=
  Bool.and_eq_true_iff

/-- Checking the bits from 0 upward is a search through the five sources in order (R248). -/
theorem pending_eq_find? (s : State) : s.pending = Fin.find? s.requests :=
  Fin.find?_eq_find?_finRange.symm

/-- The pending source is the least one requested and enabled (R248). -/
theorem pending_eq_some_iff {s : State} {k : Fin 5} :
    s.pending = some k ↔ s.requests k = true ∧ ∀ j < k, ¬ s.requests j = true := by
  simp only [pending_eq_find?, Fin.find?_eq_some_iff, Bool.not_eq_true]

/-- A dispatch pushes PC from the state with the request, IME, a pending EI and halted cleared, and
goes to the vector (R249). -/
theorem dispatch_eq (s : State) (k : Fin 5) :
    s.dispatch k =
      { pushed
          { s with
            irq :=
              { ime := false, eiDelay := 0, ifr := resBit (k.castLE (by decide)) s.irq.ifr,
                ie := s.irq.ie }
            halted := false }
          (hiByte s.pc) (loByte s.pc) with
        pc := vectorOf k } := by
  rw [← push_catBytes, catBytes_hi_lo]
  rfl

/-- Settles O54: the search stops at the least source, and clearing its request is RES of its
bit. -/
theorem dispatchServesLowestPending : Obligations.DispatchServesLowestPending := by
  refine ⟨fun s k => ?_, fun s k => ⟨_, fun j => ?_, dispatch_eq s k⟩⟩
  · simp only [pending_eq_some_iff, requests_iff, and_assoc]
  · simp only [getLsbD_resBit, Fin.ext_iff, Fin.val_castLE]

end Sys2Proof.Machine
end

section
/-!
SUPPORT and the settling of O57 and O58: the divider as one number in base 256, and the countdown by
how often it expires (60_exceptions.md R250-R252).
-/
namespace Sys2Proof.Machine

open Sys2Proof.Spec

/-! The divider. -/

/-- Settles O57: DIV and divCounter are the two digits, in base 256, of the cycles counted modulo
0x10000. -/
theorem dividerCountsCycles : Obligations.DividerCountsCycles := by
  intro s c _
  obtain ⟨hdiv, hcounter⟩ := timerAdvance_div c s
  refine ⟨?_, ?_, timerAdvance_frame c s⟩
  · rw [hdiv, hcounter, BitVec.toNat_add, BitVec.toNat_ofNat]
    omega
  · rw [hcounter]
    exact Nat.mod_lt _ (by decide)

/-! The countdown. -/

/-- `n` increments are `n` ticks of (TIMA, IF), since no increment writes TMA (R252). -/
theorem incTimaTimes_eq_iterate (n : Nat) (s : State) :
    ((incTimaTimes n s).timer.tima, (incTimaTimes n s).irq.ifr) =
      (timaTick s.timer.tma)^[n] (s.timer.tima, s.irq.ifr) := by
  induction n generalizing s with
  | zero => rfl
  | succ n ih =>
    rw [Function.iterate_succ_apply, incTimaTimes, ih]
    unfold incTima timaTick
    split <;> rfl

/-- Above 0 a countdown has not expired (R251, D16). -/
theorem expiries_of_pos {t : Int} (period : Nat) (h : 0 < t) : expiries t period = 0 :=
  if_neg (not_le.mpr h)

/-- A countdown that stands from `m` to `m + 1` periods below 0 has expired `m + 1` times
(R251). -/
theorem expiries_eq_succ {t : Int} {period m : Nat} (hle : t ≤ -(m * period))
    (hlt : -((m + 1) * period) < t) : expiries t period = m + 1 := by
  have hmul : (0 : Int) ≤ m * period := by positivity
  have hquot : -t / period = m := by
    rw [Int.ediv_eq_iff_of_pos (by linarith)]
    constructor <;> linarith
  rw [expiries, if_pos (by linarith), hquot, Int.toNat_natCast]

/-- With TAC bit 2 clear only the divider moves (R251). -/
theorem timerAdvance_of_frozen {c : Nat} {s : State} (h : s.timer.tac.getLsbD 2 = false) :
    timerAdvance c s = advanceDiv c s :=
  if_neg (Bool.not_eq_true _ ▸ h)

/-- With TAC bit 2 set the countdown loses `c`, and each of its `n` expiries gives it a period back
and is a TIMA tick (R251, R252). -/
theorem timerAdvance_of_expiries {c n : Nat} {s : State} (h : s.timer.tac.getLsbD 2 = true)
    (hn : expiries (s.timer.timaCounter - c) s.timer.scaler.cycles = n) :
    (timerAdvance c s).timer.timaCounter = s.timer.timaCounter - c + n * s.timer.scaler.cycles ∧
      ((timerAdvance c s).timer.tima, (timerAdvance c s).irq.ifr) =
        (timaTick s.timer.tma)^[n] (s.timer.tima, s.irq.ifr) := by
  subst hn
  rw [timerAdvance, advanceTima, if_pos (show (advanceDiv c s).timer.tac.getLsbD 2 = true from h)]
  exact ⟨by rw [incTimaTimes_frame]; rfl, incTimaTimes_eq_iterate _ _⟩

/-- Settles O58: the three ranges of the countdown are those of no, one and two expiries. -/
theorem countdownExpiresAtZero : Obligations.CountdownExpiresAtZero := by
  intro s c t tick n k now after
  refine ⟨fun hfrozen => ?_, fun hon => ⟨fun hpos => ?_, fun hle hlt => ?_, fun hle hlt => ?_⟩⟩
  · have ht : t = advanceDiv c s := timerAdvance_of_frozen hfrozen
    exact ⟨congrArg (·.timer.timaCounter) ht, congrArg (fun u => (u.timer.tima, u.irq.ifr)) ht⟩
  · have hn : expiries n s.timer.scaler.cycles = 0 := expiries_of_pos _ hpos
    obtain ⟨hcounter, hafter⟩ := timerAdvance_of_expiries hon hn
    exact ⟨hcounter.trans (by simp [n]), hafter⟩
  · have hn : expiries n s.timer.scaler.cycles = 1 :=
      expiries_eq_succ (by simpa using hle) (by simpa using hlt)
    obtain ⟨hcounter, hafter⟩ := timerAdvance_of_expiries hon hn
    exact ⟨hcounter.trans (by simp [n, k]), hafter⟩
  · have hn : expiries n s.timer.scaler.cycles = 2 :=
      expiries_eq_succ (by simpa using hle) (by simpa [one_add_one_eq_two] using hlt)
    obtain ⟨hcounter, hafter⟩ := timerAdvance_of_expiries hon hn
    exact ⟨hcounter.trans (by simp [n, k]), hafter⟩

end Sys2Proof.Machine
end

section
/-!
SUPPORT and the settling of O5: a step of a running core is the instruction that the bytes at PC
decode to, and an external request is a masked draw (60_exceptions.md R240, R247).
-/
namespace Sys2Proof.Machine

open Sys2Proof.Spec

/-- What the three bytes at PC decode to as a list is what is fetched there (R91, R240). -/
theorem fetched_eq_of_decode {s : State} {i : Instr} {rest : List Byte}
    (h : decode [s.busRead s.pc, s.busRead (s.pc + 1), s.busRead (s.pc + 2)] = .ok (i, rest)) :
    s.fetched = i :=
  congrArg Prod.fst (Except.ok.inj ((decodeThenEncode _ _ _).2.symm.trans h))

/-- A running core that is not halted answers the check after the instruction it fetches (R240). -/
theorem stepInstruction_executes {s t : State} (hr : s.running = true) (hh : s.halted = false)
    (hw : wellFormed s.fetched = true) (h : exec s.fetched s = .next t) :
    stepInstruction s =
      .next (interruptCheck (cycles s.fetched s) (beforeCheck true (cycles s.fetched s) t)) := by
  simp [stepInstruction, hr, hh, hw, h, endOfStep_eq]

/-- An external request has bits 0, 1, 3 and 4 only (R247). -/
theorem extDraw_and_mask (s : State) : s.extDraw &&& 0xE4 = 0 := by
  rw [State.extDraw, BitVec.and_assoc]
  exact BitVec.and_zero

/-- Settles O5: the decoded instruction is the one fetched, and the step executes that. -/
theorem stepRunsDecodedInstruction : Obligations.StepRunsDecodedInstruction := by
  refine ⟨fun s t i rest hr hh hdecode hw hexec => ?_, fun s => ⟨extDraw_and_mask s, ?_, ?_⟩⟩
  · obtain rfl := fetched_eq_of_decode hdecode
    have hstep := stepInstruction_executes hr hh hw hexec
    exact ⟨rfl, step_eq_next_iff.mpr ⟨_, hstep⟩, hstep⟩
  · intro e rest hscript
    rw [State.extDraw, hscript]
  · intro hscript
    rw [State.extDraw, hscript]

end Sys2Proof.Machine
end

section
/-!
SUPPORT and the settling of O10: an image laid out as ROM reads back as its bytes, and `loadRom` is a
reset over that ROM (70_reset_and_hazards.md R280, R282).
-/
namespace Sys2Proof.Machine

/-- A byte 0x00 of an image is not listed. -/
theorem Memory.ofBytes_cons_zero (a : Nat) (vs : List Byte) :
    Memory.ofBytes a (0 :: vs) = Memory.ofBytes (a + 1) vs :=
  if_pos rfl

/-- Any other byte of an image is listed at its address. -/
theorem Memory.ofBytes_cons_of_ne {v : Byte} (a : Nat) (vs : List Byte) (h : v ≠ 0) :
    Memory.ofBytes a (v :: vs) = (a, v) :: Memory.ofBytes (a + 1) vs :=
  if_neg h

/-- Below the address it is laid out from, an image lists nothing. -/
theorem Memory.get_ofBytes_below {a b : Nat} (vs : List Byte) (h : a < b) :
    (Memory.ofBytes b vs).get a = none :=
  Memory.get_above ((Memory.above_iff _ _).mpr fun _ hc => h.trans_le (Memory.mem_ofBytes hc).1)

/-- An image laid out from `a` reads as its bytes from there on, and as 0x00 past its end; its own
bytes 0x00, which are not listed, read as the default. -/
theorem romRead_ofBytes (a i : Nat) (vs : List Byte) :
    romRead (Memory.ofBytes a vs) (a + i) = vs[i]?.getD 0 := by
  induction vs generalizing a i with
  | nil => rfl
  | cons v vs ih =>
    have htail (j : Nat) : romRead (Memory.ofBytes (a + 1) vs) (a + (j + 1)) = vs[j]?.getD 0 := by
      rw [← ih (a + 1) j, Nat.add_right_comm, Nat.add_assoc]
    by_cases hv : v = 0
    · rw [hv, Memory.ofBytes_cons_zero]
      cases i with
      | zero => simp [romRead, Memory.get_ofBytes_below vs (Nat.lt_succ_self a)]
      | succ j => exact htail j
    · rw [Memory.ofBytes_cons_of_ne a vs hv]
      cases i with
      | zero => simp [romRead, Memory.get]
      | succ j => simpa [romRead, Memory.get] using htail j

/-- The ROM that a load puts in place reads as the image (R282). -/
theorem romRead_ofBytes_zero (bytes : List Byte) (i : Nat) :
    romRead (Memory.ofBytes 0 bytes) i = bytes[i]?.getD 0 := by
  simpa using romRead_ofBytes 0 i bytes

/-- A running core takes no image (R282, D30). -/
theorem loadRom_of_running {s : State} (bytes : List Byte) (hr : s.running = true) :
    loadRom bytes s = .refused .loadWhileRunning :=
  if_pos hr

/-- A stopped core takes no image below the least size (R282, D11). -/
theorem loadRom_of_short {s : State} {bytes : List Byte} (hr : s.running = false)
    (hlen : bytes.length < 0x4000) : loadRom bytes s = .refused .imageTooShort := by
  simp [loadRom, hr, romMinSize, hlen]

/-- A stopped core that is given an image long enough is reset over it (R282, R280). -/
theorem loadRom_of_stopped {s : State} {bytes : List Byte} (hr : s.running = false)
    (hlen : 0x4000 ≤ bytes.length) :
    loadRom bytes s =
      .next (hostReset
        { s with cart.rom := Memory.ofBytes 0 bytes, cart.romLen := bytes.length }) := by
  simp [loadRom, hr, romMinSize, hlen]

/-- Settles O10: the loaded state is a reset over the image's layout, which reads as the image. -/
theorem loadRomReplacesImage : Obligations.LoadRomReplacesImage := by
  refine fun bytes s => ⟨loadRom_of_running bytes, loadRom_of_short, fun hr hlen =>
    ⟨_, loadRom_of_stopped hr hlen, rfl, rfl, fun i hi => ?_, ?_, rfl, rfl, rfl, rfl, rfl, rfl⟩⟩
  · exact (romRead_ofBytes_zero bytes i).trans (by simp [hi])
  · exact congrArg familyOf (romRead_ofBytes_zero bytes 0x147)

end Sys2Proof.Machine
end
